-- ==== Sys2Proof/Config.lean ====
section
/-! DEFINITION. The two parameters the spec leaves open to a build of CORE: `ARGW` and `PAT_TABLE` (R8, R22).
They are fixed for a machine; `State.params` carries them because a step has no argument beside the state (log entry 3). -/

namespace Sys2Proof.Config

/-- The parameter `PAT_TABLE`: which contents the pattern table has at five entries (R57, R58, D14). -/
inductive PatTable where
  /-- All 17 patterns of R57, the default. -/
  | full17
  /-- The 12 patterns of R58. -/
  | sparse12
  deriving DecidableEq, Repr

/-- The build parameters of one CORE (R8, R22). -/
structure Params where
  /-- `ARGW`, the width of the operand bus. -/
  argw : Nat
  /-- `PAT_TABLE`. -/
  patTable : PatTable
  deriving DecidableEq, Repr

/-- R8 and D3 allow any `ARGW` of at least 18, so that every contract violation can be presented. -/
abbrev Params.Legal (p : Params) : Prop := 18 ≤ p.argw

/-- The spec's defaults: `ARGW` = 32 and `PAT_TABLE` = FULL17 (R8). -/
def Params.default : Params := { argw := 32, patTable := .full17 }

/-- The operand width in which `spec/opcode_table.json` writes its command words (R81). -/
def tableArgw : Nat := 32

end Sys2Proof.Config
end

