-- ==== Sys2Proof/Word.lean ====
section
/-! DEFINITION. The word types of CORE, one name for each width the spec gives a kind of value (R7, R9, R14). -/

namespace Sys2Proof

/-- A data word: 9 significant bits (R14). -/
abbrev DataWord := BitVec 9

/-- A 17-bit word: a codeword, a received word or an error pattern (R14). -/
abbrev Word17 := BitVec 17

/-- An 8-bit vector: a parity byte or a syndrome (R14). -/
abbrev Syndrome := BitVec 8

/-- A fault cause as `FCAUSE` holds it: 3 bits (R30). -/
abbrev Cause := BitVec 3

end Sys2Proof
end

