-- ==== Sys2Proof/Syntax.lean ====
section
/-! DEFINITION. Commands as the host drives them and instructions as they are written (R80, R81, R83, R90). -/

namespace Sys2Proof

/-- A written command: the operation and the literal that is its whole `arg` field, an unsigned integer that nothing has
checked or cut yet (R81, R90). One constructor for each row of `spec/opcode_table.json`. -/
inductive Instr where
  /-- `ENC`: the systematic encoder (R131). -/
  | enc (arg : Nat)
  /-- `DEC`: the syndrome decoder (R146). -/
  | dec (arg : Nat)
  /-- `ROT`: the cyclic rotator (R121). -/
  | rot (arg : Nat)
  /-- `MULG`: the GF(2) product with the generator matrix (R104). -/
  | mulg (arg : Nat)
  /-- `SYN`: the GF(2) product with the parity-check matrix (R106). -/
  | syn (arg : Nat)
  /-- `PAT`: the error-pattern lookup (R142). -/
  | pat (arg : Nat)
  /-- The reserved operation code `0b110` (R86). -/
  | reserved6 (arg : Nat)
  /-- The reserved operation code `0b111` (R86). -/
  | reserved7 (arg : Nat)
  deriving DecidableEq, Repr

/-- The operand field of an instruction: "the literal is the whole `arg` field" (R90). -/
def Instr.arg : Instr → Nat
  | .enc arg => arg
  | .dec arg => arg
  | .rot arg => arg
  | .mulg arg => arg
  | .syn arg => arg
  | .pat arg => arg
  | .reserved6 arg => arg
  | .reserved7 arg => arg

/-- A command on the two ports `cmd_op[2:0]` and `cmd_arg` (R81). The operand is kept as the unsigned integer the host
asked for; `Command.fits` says whether a bus of `ARGW` bits can carry it. -/
structure Command where
  op : BitVec 3
  arg : Nat
  deriving DecidableEq, Repr

/-- What the host drives during one step: the level of the pin `rst` (R190) and at most one command (R185). Both may be
there together; reset then wins (R174). -/
structure HostInput where
  rst : Bool
  cmd : Option Command
  deriving DecidableEq, Repr

/-- Why a word or a pair of port values is no command. -/
inductive DecodeError where
  /-- The operand does not fit `ARGW` bits: "an error of the writer, not a command" (R90). -/
  | operandTooWide
  /-- The word has a bit above its 3 + `ARGW` bits (R81). -/
  | wordTooLong
  deriving DecidableEq, Repr

/-- The five output registers the host can read (R21, R185). -/
inductive OutputReg where
  | RES | CNT | ST | FLT | FCAUSE
  deriving DecidableEq, Repr

end Sys2Proof
end

