-- ==== Sys2Proof/WellFormed.lean ====
section
/-! DEFINITION. Which written commands can be encoded at all: those whose literal fits `ARGW` bits (R90). -/

namespace Sys2Proof

/-- A value fits a field of `w` bits (R9: every bit at position `w` and above is zero). -/
abbrev fitsWidth (w v : Nat) : Prop := v < 2 ^ w

/-- R90: "A literal that does not fit ARGW bits cannot be encoded and is an error of the writer, not a command." The
operation's own width plays no part: `ENC 0x200` is a well-formed line that encodes to a faulting command. -/
abbrev Instr.WellFormed (argw : Nat) (i : Instr) : Prop := fitsWidth argw i.arg

/-- A pair of port values that an operand bus of `argw` bits can carry. -/
abbrev Command.Fits (argw : Nat) (c : Command) : Prop := fitsWidth argw c.arg

end Sys2Proof
end

