-- ==== Sys2Proof/Decode.lean ====
section
/-! DEFINITION. Decoding commands and command words, total, and the encoder beside it (R81, R83, R85, R92). -/

namespace Sys2Proof

/-- The operation code map (R83). The code alone selects the operation; `arg` never does. -/
def Instr.ofOpcode (op : BitVec 3) (arg : Nat) : Instr :=
  match op.toNat with
  | 0 => .enc arg
  | 1 => .dec arg
  | 2 => .rot arg
  | 3 => .mulg arg
  | 4 => .syn arg
  | 5 => .pat arg
  | 6 => .reserved6 arg
  | _ => .reserved7 arg

/-- Decoding of the two ports (R85): every operand that the bus can carry gives an instruction, whatever its operation
code; an operand that does not fit the bus is no command (R90). -/
def decodeCommand (argw : Nat) (c : Command) : Except DecodeError Instr :=
  if c.arg >>> argw = 0 then .ok (Instr.ofOpcode c.op c.arg) else .error .operandTooWide

/-- The two fields of a command word of 3 + `ARGW` bits: `op` in the top 3 bits, `arg` below (R81). -/
def Command.ofWord (argw : Nat) (word : Nat) : Except DecodeError Command :=
  if word >>> (argw + 3) = 0 then
    .ok { op := BitVec.ofNat 3 (word >>> argw), arg := word % 2 ^ argw }
  else .error .wordTooLong

/-- Decoding of a command word (R81, R85): total, rejecting by name a word that is too long. -/
def decodeWord (argw : Nat) (word : Nat) : Except DecodeError Instr :=
  match Command.ofWord argw word with
  | .ok c => decodeCommand argw c
  | .error e => .error e

/-- The operation code of an instruction (R83). -/
def Instr.opcode : Instr → BitVec 3
  | .enc _ => 0b000#3
  | .dec _ => 0b001#3
  | .rot _ => 0b010#3
  | .mulg _ => 0b011#3
  | .syn _ => 0b100#3
  | .pat _ => 0b101#3
  | .reserved6 _ => 0b110#3
  | .reserved7 _ => 0b111#3

/-- The port values of an instruction. -/
def Instr.toCommand (i : Instr) : Command := { op := i.opcode, arg := i.arg }

/-- The host's input that presents an instruction with the pin `rst` inactive (R185). -/
def HostInput.ofInstr (i : Instr) : HostInput := { rst := false, cmd := some i.toCommand }

/-- The command word `{op, arg}` (R81, R92: `word = (op << 32) | arg` for `ARGW` = 32). -/
def Command.toWord (argw : Nat) (c : Command) : Nat := (c.op.toNat <<< argw) ||| c.arg

/-- The encoder: the command word of a well-formed instruction (R92). -/
def encode (argw : Nat) (i : Instr) : Nat := i.toCommand.toWord argw

/-- The port values of a word written as `spec/opcode_table.json` writes it: 35 bits, `op` in bits 34:32 and `arg` in bits
31:0 (R81). -/
def Command.ofTableWord (w : Nat) : Except DecodeError Command := Command.ofWord Config.tableArgw w

/-- The instruction the decoder reads from a word of the opcode table. Every command has one length (R89), so the number
of bits the table gives a row decides nothing (log entry 17). -/
def decodeTableWord (_nbits w : Nat) : Option Instr :=
  match decodeWord Config.tableArgw w with
  | .ok i => some i
  | .error _ => none

end Sys2Proof
end

