-- ==== Sys2Proof/Machine/State.lean ====
section
/-! DEFINITION. The state of CORE as plain data (R21 to R35), the reasons a step can stop, and the state after reset. -/

namespace Sys2Proof.Machine

/-- How the last command ended. R176 asks that a refusal be "recorded as an outcome distinct from OK, FAIL and fault";
this record is the model's own, no register of CORE, and no operation reads it (log entry 4). -/
inductive CommandOutcome where
  /-- No command since reset. -/
  | none
  /-- The command completed with status OK (R27). -/
  | ok
  /-- A DEC completed with status FAIL (R27, R146). -/
  | fail
  /-- The command faulted with this cause (R172). -/
  | fault (cause : Cause)
  /-- The command was refused because `FLT` was 1 (R176). -/
  | refused
  deriving DecidableEq, Repr

/-- The state of one CORE (R21) and, as its last three fields, what the model adds for the host's side of a step. -/
structure State where
  /-- `RES`: the value result of the last command (R25). -/
  res : BitVec 17
  /-- `CNT`: the correction count of the last successful DEC (R26). -/
  cnt : BitVec 2
  /-- `ST`: the status of the last command (R27). -/
  st : BitVec 2
  /-- `FLT`: the sticky fault flag (R29). -/
  flt : BitVec 1
  /-- `FCAUSE`: the cause of the fault that set `FLT` (R30). -/
  fcause : BitVec 3
  /-- The build parameters (R8, R22): the model's own field, which no step writes (log entry 3). -/
  params : Config.Params
  /-- What the host will drive, one entry a step: the model's own field (R185, R190; log entry 1). -/
  inputs : List HostInput
  /-- How the last command ended: the model's own field (R176; log entry 4). -/
  outcome : CommandOutcome
  deriving DecidableEq, Repr

/-- Reasons for which CORE itself would stop: there is none. Every fault the spec names is an entry into a state it
describes, hence a next state (R172), and "no behaviour of CORE is stuck" (93_implementation_defined.md). -/
inductive Fault
  deriving DecidableEq, Repr

/-- Reasons for which the model gives a step no meaning. -/
inductive Refusal where
  /-- Raised by no arm of `exec`: every instruction has its meaning. Safe. -/
  | notModelled (mnemonic : String)
  /-- Raised by `step` when the host's next entry has an operand that does not fit the `ARGW` bits of the bus: R90 says
  it "cannot be encoded and is an error of the writer, not a command". Safe: a real bus cannot carry it (log entry 5). -/
  | notACommand
  deriving DecidableEq, Repr

/-- The state right after reset (R35): all five registers zero. The parameters are the spec's defaults (R8), nothing is
presented yet and no command has ended (log entries 1, 3, 4). -/
def State.reset : State where
  res := 0#17
  cnt := 0#2
  st := 0b00#2
  flt := 0#1
  fcause := 0#3
  params := Config.Params.default
  inputs := []
  outcome := .none

end Sys2Proof.Machine
end

