-- ==== Sys2Proof/Machine/Flags.lean ====
section
/-! DEFINITION. The codes of `ST` and the two ways a command that completes writes `RES`, `CNT` and `ST` (R25 to R27). -/

namespace Sys2Proof.Machine

/-- `ST` = NONE: no result is held (R27). -/
def stNone : BitVec 2 := 0b00#2

/-- `ST` = OK: `RES`, and after DEC also `CNT`, hold the result (R27). -/
def stOk : BitVec 2 := 0b01#2

/-- `ST` = FAIL: decode failure, no result (R27). -/
def stFail : BitVec 2 := 0b10#2

/-- A command ends in OK with this result and count. Every operation but DEC writes the count 0 (R26, D26). -/
def State.writeOk (s : State) (result : BitVec 17) (count : BitVec 2) : State :=
  { s with res := result, cnt := count, st := stOk, outcome := .ok }

/-- A DEC ends in decode failure: `RES` and `CNT` are 0, and `FLT` stays as it is (R27, R146, D6). -/
def State.writeFail (s : State) : State :=
  { s with res := 0#17, cnt := 0#2, st := stFail, outcome := .fail }

end Sys2Proof.Machine
end

