-- ==== Sys2Proof/Machine/Operands.lean ====
section
/-! DEFINITION. The one operand form of CORE, an unsigned literal with a declared width (R82, R88), and the bit counts
that the functions of CORE use (R10). -/

namespace Sys2Proof.Machine

/-- The width check: some bit of `arg[ARGW-1:W]` is set (R82, R85). -/
def operandExceeds (W : Nat) (arg : Nat) : Bool := arg >>> W != 0

/-- The operand the operation works on: `arg[W-1:0]`, used only when the width check passes (R82). -/
def operandValue (W : Nat) (arg : Nat) : BitVec W := BitVec.ofNat W arg

/-- The number of set bits of `v`, its Hamming weight (R10). -/
def popcount {w : Nat} (v : BitVec w) : Nat := (List.range w).countP fun i => v.getLsbD i

/-- `popcount(v) mod 2` as a single bit (R10). -/
def parity {w : Nat} (v : BitVec w) : Bool := popcount v % 2 == 1

end Sys2Proof.Machine
end

