-- ==== Sys2Proof/Machine/Ops.lean ====
section
/-! DEFINITION. The named operations over the state: entering a fault, refusing a command, the frame that every command
runs in, reset, and what the host reads. -/

namespace Sys2Proof.Machine

/-- Taking a fault: `raise Fault(c)` writes these five registers and ends the command (R172). There is no saved pc, no
status, no handler address and no mode to change, and no return: only reset leaves this state (R175). -/
def State.raiseFault (s : State) (c : Cause) : State :=
  { s with flt := 1#1, fcause := c, res := 0#17, cnt := 0#2, st := stNone, outcome := .fault c }

/-- A refused command changes no register; only the model's own record notes it (R176). -/
def State.refuse (s : State) : State := { s with outcome := .refused }

/-- The refusal test, which comes before everything else a command does (R85, R174). -/
def unlessFaulted (s : State) (perform : State → State) : Host.Outcome State Fault Refusal :=
  if s.flt = 1#1 then .next s.refuse else .next (perform s)

/-- The frame of the six operations (R85): the refusal test, then the width check against the declared width `W` with
its fault cause, then the operation on the operand. -/
def runOperation (W : Nat) (cause : Cause) (arg : Nat) (perform : BitVec W → State → State) (s : State) :
    Host.Outcome State Fault Refusal :=
  unlessFaulted s fun s =>
    if operandExceeds W arg then s.raiseFault cause else perform (operandValue W arg) s

/-- Reset: the whole mutable state is replaced by the reset state (R190). The build parameters are no mutable state
(R22), and the inputs that the host drives afterwards are not CORE's to clear (log entry 14). -/
def State.applyReset (s : State) : State :=
  { State.reset with params := s.params, inputs := s.inputs }

/-- A step in which the host presents nothing: nothing but a command and reset changes CORE's state (R178; log entry 2). -/
def State.idle (s : State) : State := s

/-- The next input the host drives, taken off the list; a host that has nothing left to drive holds `rst` inactive and
presents no command. -/
def State.takeInput (s : State) : HostInput × State :=
  match s.inputs with
  | [] => ({ rst := false, cmd := none }, s)
  | h :: rest => (h, { s with inputs := rest })

/-- What the host reads from an output register, as an unsigned integer, between commands; reading changes nothing
(R25, R185; log entry 15). -/
def State.hostRead (s : State) : OutputReg → Nat
  | .RES => s.res.toNat
  | .CNT => s.cnt.toNat
  | .ST => s.st.toNat
  | .FLT => s.flt.toNat
  | .FCAUSE => s.fcause.toNat

end Sys2Proof.Machine
end

