-- ==== Sys2Proof/Machine/Tables.lean ====
section
/-! DEFINITION. The three constant tables `GEN`, `PAR` and `PAT` (R31, R50), number by number as the spec lists them. -/

namespace Sys2Proof.Machine

/-- The generator matrix: row r gives parity bit 7 - r, and bit j of a row multiplies data bit j (R53). -/
def GEN : Vector (BitVec 9) 8 :=
  #v[0b100111100#9,
     0b010011110#9,
     0b001001111#9,
     0b100011011#9,
     0b110110001#9,
     0b111100100#9,
     0b011110010#9,
     0b001111001#9]

/-- The parity-check matrix: row r checks parity bit 7 - r and produces syndrome bit 7 - r (R55). -/
def PAR : Vector (BitVec 17) 8 :=
  #v[0b10011110010000000#17,
     0b01001111001000000#17,
     0b00100111100100000#17,
     0b10001101100010000#17,
     0b11011000100001000#17,
     0b11110010000000100#17,
     0b01111001000000010#17,
     0b00111100100000001#17]

/-- The 17 non-zero entries of the pattern table under FULL17: index and pattern (R57). -/
def patEntries : List (BitVec 8 × BitVec 17) :=
  [(0x01#8, 0x00001#17),
   (0x03#8, 0x00003#17),
   (0x05#8, 0x00005#17),
   (0x09#8, 0x00009#17),
   (0x11#8, 0x00011#17),
   (0x21#8, 0x00021#17),
   (0x26#8, 0x04001#17),
   (0x38#8, 0x00101#17),
   (0x41#8, 0x00041#17),
   (0x4F#8, 0x08001#17),
   (0x73#8, 0x00201#17),
   (0x81#8, 0x00081#17),
   (0x8E#8, 0x02001#17),
   (0x9D#8, 0x10001#17),
   (0xDA#8, 0x01001#17),
   (0xE5#8, 0x00401#17),
   (0xF0#8, 0x00801#17)]

/-- The five indexes, all with bit 0 clear, whose entries are 0 under SPARSE12 (R58). -/
def sparseZeros : List (BitVec 8) := [0x26#8, 0x38#8, 0x8E#8, 0xDA#8, 0xF0#8]

/-- The 256-entry table `PAT` read at one index: the stored pattern, or 0 where none is stored (R57, R58, R62, R140). -/
def pat (t : Config.PatTable) (s : BitVec 8) : BitVec 17 :=
  let stored := (patEntries.lookup s).getD 0#17
  match t with
  | .full17 => stored
  | .sparse12 => if s ∈ sparseZeros then 0#17 else stored

end Sys2Proof.Machine
end

