-- ==== Sys2Proof/Machine/Multiplier.lean ====
section
/-! DEFINITION. The GF(2) matrix-vector multiplier and its operations MULG and SYN (40_gf2_multiplier.md). -/

namespace Sys2Proof.Machine

/-- `gf2_mul(M, R, W, v)` (R100): each row is ANDed with the vector and XOR-reduced to a bit; row 0 gives the most
significant bit of the result, since the fold moves the bits already found one place up for each further row. -/
def gf2Mul {R W : Nat} (M : Vector (BitVec W) R) (v : BitVec W) : BitVec R :=
  M.toList.foldl (fun out row => (out <<< 1) ||| (BitVec.ofBool (parity (row &&& v))).setWidth R) 0#R

/-- `mul_gen(d)`: the 8 parity bits of a data word (R103). -/
def mulGen (d : BitVec 9) : BitVec 8 := gf2Mul GEN d

/-- `syndrome(w)`: the 8-bit syndrome of a 17-bit word (R105). -/
def syndrome (w : BitVec 17) : BitVec 8 := gf2Mul PAR w

/-- MULG (R104). -/
def execMulg (arg : Nat) (s : State) : Host.Outcome State Fault Refusal :=
  runOperation 9 5#3 arg (fun d s => s.writeOk ((mulGen d).setWidth 17) 0#2) s

/-- SYN (R106). -/
def execSyn (arg : Nat) (s : State) : Host.Outcome State Fault Refusal :=
  runOperation 17 6#3 arg (fun w s => s.writeOk ((syndrome w).setWidth 17) 0#2) s

end Sys2Proof.Machine
end

