-- ==== Sys2Proof/Machine/Rotator.lean ====
section
/-! DEFINITION. The cyclic bit rotator and its operation ROT (41_rotator.md). -/

namespace Sys2Proof.Machine

/-- `rot17(w)` = `{ w[0], w[16:1] }`: one place toward the low end, bit 0 re-entering at bit 16 (R120). -/
def rot17 (w : BitVec 17) : BitVec 17 := w.extractLsb' 0 1 ++ w.extractLsb' 1 16

/-- ROT (R121). -/
def execRot (arg : Nat) (s : State) : Host.Outcome State Fault Refusal :=
  runOperation 17 4#3 arg (fun w s => s.writeOk (rot17 w) 0#2) s

end Sys2Proof.Machine
end

