-- ==== Sys2Proof/Machine/Decoder.lean ====
section
/-! DEFINITION. The syndrome decoder with its pattern table, and the operations PAT and DEC (43_decoder.md). -/

namespace Sys2Proof.Machine

/-- The decoder's working values (R33): the accumulator, an optional correction count, and the working word `current`. -/
structure DecWork where
  acc : Option Nat
  cur : BitVec 17
  deriving DecidableEq, Repr

/-- `dec_step(acc, cur)`: one iteration (R143). A zero syndrome leaves the accumulator as it is; a missing pattern marks it
undefined; a pattern overwrites it with its weight and is applied whole (90_conflicts.md C3). Every branch rotates once. -/
def decStep (t : Config.PatTable) (x : DecWork) : DecWork :=
  let s := syndrome x.cur
  if s = 0#8 then { acc := x.acc, cur := rot17 x.cur }
  else
    let p := pat t s
    if p = 0#17 then { acc := none, cur := rot17 x.cur }
    else { acc := some (popcount p), cur := rot17 (x.cur ^^^ p) }

/-- The first `n` iterations of the decoder's loop (R145). -/
def decLoop (t : Config.PatTable) : Nat → DecWork → DecWork
  | 0, x => x
  | n + 1, x => decLoop t n (decStep t x)

/-- The working values a DEC begins with (R33, R145 step 1). -/
def decStart (w : BitVec 17) : DecWork := { acc := some 0, cur := w }

/-- `decode(w)` (R145): exactly 17 iterations, then the top 9 bits of the working word and the count, or no result. -/
def decodeReceived (t : Config.PatTable) (w : BitVec 17) : Option (BitVec 9 × Nat) :=
  let x := decLoop t 17 (decStart w)
  match x.acc with
  | some n => some (x.cur.extractLsb' 8 9, n)
  | none => none

/-- PAT (R142). A zero entry is a result like any other, with status OK. -/
def execPat (arg : Nat) (s : State) : Host.Outcome State Fault Refusal :=
  runOperation 8 7#3 arg (fun i s => s.writeOk (pat s.params.patTable i) 0#2) s

/-- DEC (R146). Decode failure is a status, not a fault: it leaves `FLT` alone (R170). -/
def execDec (arg : Nat) (s : State) : Host.Outcome State Fault Refusal :=
  runOperation 17 3#3 arg
    (fun w s =>
      match decodeReceived s.params.patTable w with
      | some (d, n) => s.writeOk (d.setWidth 17) (BitVec.ofNat 2 n)
      | none => s.writeFail)
    s

end Sys2Proof.Machine
end

