-- ==== Sys2Proof/Machine/Encoder.lean ====
section
/-! DEFINITION. The systematic encoder and its operation ENC (42_encoder.md). -/

namespace Sys2Proof.Machine

/-- `encode(d)` = `{ d, mul_gen(d) }`: the data in bits 16:8, the parity in bits 7:0 (R130). -/
def encodeData (d : BitVec 9) : BitVec 17 := d ++ mulGen d

/-- ENC (R131). -/
def execEnc (arg : Nat) (s : State) : Host.Outcome State Fault Refusal :=
  runOperation 9 2#3 arg (fun d s => s.writeOk (encodeData d) 0#2) s

end Sys2Proof.Machine
end

