-- ==== Sys2Proof/Machine/Reserved.lean ====
section
/-! DEFINITION. The two reserved operation codes (R86). -/

namespace Sys2Proof.Machine

/-- A reserved code faults with cause 1, ILLEGAL_OP, without looking at its operand (R86, R171, R174). -/
def runReserved (s : State) : Host.Outcome State Fault Refusal :=
  unlessFaulted s fun s => s.raiseFault 1#3

/-- Operation code `0b110` (R86). -/
def execReserved6 (_arg : Nat) (s : State) : Host.Outcome State Fault Refusal := runReserved s

/-- Operation code `0b111` (R86). -/
def execReserved7 (_arg : Nat) (s : State) : Host.Outcome State Fault Refusal := runReserved s

end Sys2Proof.Machine
end

