-- ==== Sys2Proof/Machine/Dispatch.lean ====
section
/-! DEFINITION. The meaning of each instruction: one direct call per constructor of Instr. -/

namespace Sys2Proof.Machine

def exec (i : Instr) (s : State) : Host.Outcome State Fault Refusal :=
  match i with
  | .enc arg => Sys2Proof.Machine.execEnc arg s
  | .dec arg => Sys2Proof.Machine.execDec arg s
  | .rot arg => Sys2Proof.Machine.execRot arg s
  | .mulg arg => Sys2Proof.Machine.execMulg arg s
  | .syn arg => Sys2Proof.Machine.execSyn arg s
  | .pat arg => Sys2Proof.Machine.execPat arg s
  | .reserved6 arg => Sys2Proof.Machine.execReserved6 arg s
  | .reserved7 arg => Sys2Proof.Machine.execReserved7 arg s

end Sys2Proof.Machine
end

