-- ==== Sys2Proof/Machine/Step.lean ====
section
/-! DEFINITION. One step of CORE: one input of the host, carried out whole (R66, R80, R190). -/

namespace Sys2Proof.Machine

/-- One step: the host's next input is taken; reset wins over a command presented with it (R174, R190); a command is
decoded and executed to completion (R66, R85); with no command nothing changes (log entry 2). -/
def step (s : State) : Host.Outcome State Fault Refusal :=
  let (h, s) := s.takeInput
  if h.rst then .next s.applyReset
  else
    match h.cmd with
    | none => .next s.idle
    | some c =>
      match decodeCommand s.params.argw c with
      | .ok i => exec i s
      | .error _ => .refused .notACommand

/-- `s` with the command of a table word presented next, before whatever else the host will drive (log entries 7, 17). A
word that is no command of 35 bits presents nothing. -/
def State.withFetchWord (s : State) (_nbits w : Nat) : State :=
  match Command.ofTableWord w with
  | .ok c => { s with inputs := { rst := false, cmd := some c } :: s.inputs }
  | .error _ => s

end Sys2Proof.Machine
end

