-- ==== Sys2Proof/Machine/Assembler.lean ====
section
/-! DEFINITION. The written syntax of commands and programs (R90, R91, R92). What R90 leaves loose (blanks, the case of
hexadecimal digits, where a separator may stand) is chosen in log entry 13. -/

namespace Sys2Proof.Machine

/-- Why a written program cannot be assembled. -/
inductive AsmError where
  /-- The first word of a line is no mnemonic of R83; the reserved codes have none. -/
  | unknownMnemonic
  /-- The literal is not decimal, `0x` hexadecimal or `0b` binary (R90). -/
  | badLiteral
  /-- A line is not a mnemonic followed by one literal (R90). -/
  | badLine
  /-- The literal does not fit `ARGW` bits (R90). -/
  | literalTooWide
  deriving DecidableEq, Repr

/-- The value of a digit in a base of at most 16; letters may be of either case. -/
def digitValue (base : Nat) (c : Char) : Option Nat :=
  let n := c.toNat
  let v := if 48 ≤ n ∧ n ≤ 57 then n - 48
    else if 65 ≤ n ∧ n ≤ 70 then n - 55
    else if 97 ≤ n ∧ n ≤ 102 then n - 87
    else base
  if v < base then some v else none

/-- The digits of a literal after its base mark; `_` is a separator with no value (R9, R90). At least one digit stands. -/
def parseDigits (base : Nat) : List Char → Bool → Nat → Option Nat
  | [], seen, acc => if seen then some acc else none
  | c :: cs, seen, acc =>
    if c = '_' then parseDigits base cs seen acc
    else
      match digitValue base c with
      | some v => parseDigits base cs true (acc * base + v)
      | none => none

/-- One unsigned literal: `0x` hexadecimal, `0b` binary or decimal (R90). -/
def parseLiteral : List Char → Option Nat
  | '0' :: 'x' :: cs => parseDigits 16 cs false 0
  | '0' :: 'b' :: cs => parseDigits 2 cs false 0
  | cs => parseDigits 10 cs false 0

/-- The mnemonics of R83. There is no pseudo-instruction, no written reset and no mnemonic of a reserved code (R91). -/
def parseMnemonic (m : List Char) : Option (Nat → Instr) :=
  if m = ['E', 'N', 'C'] then some .enc
  else if m = ['D', 'E', 'C'] then some .dec
  else if m = ['R', 'O', 'T'] then some .rot
  else if m = ['M', 'U', 'L', 'G'] then some .mulg
  else if m = ['S', 'Y', 'N'] then some .syn
  else if m = ['P', 'A', 'T'] then some .pat
  else none

/-- The words of a line: runs of characters between blanks. `word` is the run in hand, last character first. -/
def splitWords : List Char → List Char → List (List Char)
  | [], word => if word.isEmpty then [] else [word.reverse]
  | c :: cs, word =>
    if c = ' ' ∨ c = '\t' ∨ c = '\r' then
      if word.isEmpty then splitWords cs [] else word.reverse :: splitWords cs []
    else splitWords cs (c :: word)

/-- The lines of a text. `line` is the line in hand, last character first. -/
def splitLines : List Char → List Char → List (List Char)
  | [], line => [line.reverse]
  | c :: cs, line => if c = '\n' then line.reverse :: splitLines cs [] else splitLines cs (c :: line)

/-- One line: a command, or nothing where only blanks and a comment from `#` on stand (R90). -/
def parseLine (cs : List Char) : Except AsmError (Option Instr) :=
  match splitWords (cs.takeWhile fun c => c != '#') [] with
  | [] => .ok none
  | [m, l] =>
    match parseMnemonic m, parseLiteral l with
    | some mk, some v => .ok (some (mk v))
    | none, _ => .error .unknownMnemonic
    | some _, none => .error .badLiteral
  | _ => .error .badLine

/-- The commands of a list of lines, top to bottom, each checked to fit `ARGW` bits (R90). -/
def parseLines (argw : Nat) : List (List Char) → Except AsmError (List Instr)
  | [] => .ok []
  | line :: lines =>
    match parseLine line, parseLines argw lines with
    | .error e, _ => .error e
    | .ok none, rest => rest
    | .ok (some i), .ok is => if i.WellFormed argw then .ok (i :: is) else .error .literalTooWide
    | .ok (some i), .error e => if i.WellFormed argw then .error e else .error .literalTooWide

/-- A program: a list of commands, one a line (R24, R90). -/
def parseProgram (argw : Nat) (text : List Char) : Except AsmError (List Instr) :=
  parseLines argw (splitLines text [])

/-- The command words of a program (R92). -/
def assemble (argw : Nat) (text : List Char) : Except AsmError (List Nat) :=
  match parseProgram argw text with
  | .ok is => .ok (is.map (encode argw))
  | .error e => .error e

end Sys2Proof.Machine
end

