-- ==== Sys2Proof/Machine/Instances.lean ====
section
/-! DEFINITION. Several instances of CORE side by side (R183, R184): each has a state of its own and shares nothing that
can change; the tables are constants. -/

namespace Sys2Proof.Machine

/-- One step of instance `k` of several; the others are not touched, and a number that names no instance steps none
(R184; log entry 16). -/
def stepInstance (k : Nat) (xs : List State) : Host.Outcome (List State) Fault Refusal :=
  match xs[k]? with
  | none => .next xs
  | some s =>
    match step s with
    | .next t => .next (xs.set k t)
    | .fault f => .fault f
    | .refused r => .refused r

end Sys2Proof.Machine
end

