-- ==== Sys2Proof/Safety.lean ====
section
/-! DEFINITION. What counts as a command that breaks its contract, a legal state and a run that has gone wrong, in the
terms the statements use. -/

namespace Sys2Proof.Machine

/-- The fault condition of each instruction, row by row from the table of causes (R171): an operand that is not below
2^W for the declared width W (R88), or a reserved code whatever its operand (R86). -/
def breaksContract : Instr → Bool
  | .enc arg => decide (2 ^ 9 ≤ arg)
  | .dec arg => decide (2 ^ 17 ≤ arg)
  | .rot arg => decide (2 ^ 17 ≤ arg)
  | .mulg arg => decide (2 ^ 9 ≤ arg)
  | .syn arg => decide (2 ^ 17 ≤ arg)
  | .pat arg => decide (2 ^ 8 ≤ arg)
  | .reserved6 _ => true
  | .reserved7 _ => true

/-- The cause that a fault of each instruction records (R171). -/
def faultCause : Instr → Cause
  | .reserved6 _ => 1#3
  | .reserved7 _ => 1#3
  | .enc _ => 2#3
  | .dec _ => 3#3
  | .rot _ => 4#3
  | .mulg _ => 5#3
  | .syn _ => 6#3
  | .pat _ => 7#3

/-- A state as the rules say a state of CORE can be (R26 to R30, R176; U8 of 93_implementation_defined.md). -/
structure State.Legal (s : State) : Prop where
  /-- The build has a legal operand bus (R8). -/
  params_legal : s.params.Legal
  /-- `ST` = `0b11` is never produced (R27). -/
  st_produced : s.st ≠ 0b11#2
  /-- `CNT` = 3 never occurs (R26). -/
  cnt_produced : s.cnt ≠ 3#2
  /-- `FCAUSE` is 0 exactly when there is no fault (R30, R171). -/
  cause_iff_fault : s.fcause = 0#3 ↔ s.flt = 0#1
  /-- While `FLT` = 1, `ST` is NONE (R172, R176). -/
  fault_holds_no_result : s.flt = 1#1 → s.st = stNone
  /-- `RES` and `CNT` are 0 unless `ST` is OK (R25, R26, R27). -/
  no_result_is_zero : s.st ≠ stOk → s.res = 0#17 ∧ s.cnt = 0#2
  /-- A count other than 0 belongs to a successful DEC, whose result has 9 bits (R25, R26). -/
  counted_result_is_data : s.cnt ≠ 0#2 → fitsWidth 9 s.res.toNat
  /-- The record of the last command agrees with `ST`, `FLT` and `FCAUSE` (R27, R172, R176). -/
  outcome_agrees :
    match s.outcome with
    | .none => s.st = stNone ∧ s.flt = 0#1
    | .ok => s.st = stOk ∧ s.flt = 0#1
    | .fail => s.st = stFail ∧ s.flt = 0#1
    | .fault c => s.flt = 1#1 ∧ s.fcause = c
    | .refused => s.flt = 1#1

/-- The five output registers of two states agree. -/
def State.SameRegisters (s t : State) : Prop :=
  s.res = t.res ∧ s.cnt = t.cnt ∧ s.st = t.st ∧ s.flt = t.flt ∧ s.fcause = t.fcause

/-- The host has one program to present, command by command, and nothing else (R198). -/
def State.Loaded (s : State) (program : List Instr) : Prop := s.inputs = program.map HostInput.ofInstr

/-- A run has gone wrong when some command faulted, which a run's end shows in `FLT` (R198). -/
def State.GoneWrong (s : State) : Prop := s.flt = 1#1

/-- A word is a codeword: the encoding of some data word (R130, R132). -/
def IsCodeword (w : BitVec 17) : Prop := ∃ d, encodeData d = w

end Sys2Proof.Machine
end

