-- ==== Sys2Proof/Certificates/Slice0/Obligations.lean ====
section
/-! DEFINITION. The statements for the provers. Each formalises rules of spec/ or rests on the sections its entry in
OBLIGATIONS.json cites. Where a statement says "for some outcome", that field is the model's own record of how a command
ended (log entry 4) and the rule says nothing about it. -/

open Sys2Proof Sys2Proof.Machine

namespace Sys2Proof.Machine

/-- The instruction completes with status OK: `RES` and `CNT` as given, `ST` = `0b01`, everything else unchanged but the
model's record of the outcome. -/
def EndsOk (i : Instr) (s : State) (r : BitVec 17) (c : BitVec 2) : Prop :=
  ∃ o, exec i s = .next { s with res := r, cnt := c, st := 0b01#2, outcome := o }

/-- The instruction completes with status FAIL: `RES` = 0, `CNT` = 0, `ST` = `0b10`, everything else unchanged but the
model's record of the outcome. -/
def EndsFail (i : Instr) (s : State) : Prop :=
  ∃ o, exec i s = .next { s with res := 0#17, cnt := 0#2, st := 0b10#2, outcome := o }

/-- The instruction faults: the five writes of R172, everything else unchanged but the model's record of the outcome. -/
def EndsFaulted (i : Instr) (s : State) (c : BitVec 3) : Prop :=
  ∃ o, exec i s = .next { s with flt := 1#1, fcause := c, res := 0#17, cnt := 0#2, st := 0b00#2, outcome := o }

/-- The operation code `op` and format C, with `ARGW` = 32, stand for the instructions `mk arg` (R81, R83). -/
def EncodedAs (op : Nat) (mk : Nat → Instr) : Prop :=
  ∀ arg, arg < 2 ^ 32 →
    encode 32 (mk arg) = op * 2 ^ 32 + arg ∧ decodeWord 32 (op * 2 ^ 32 + arg) = .ok (mk arg)

/-- The columns of `PAR`: the syndromes of the words with one set bit, for bits 0 to 16 (R56). -/
def parColumns : List (BitVec 8) :=
  [0x01#8, 0x02#8, 0x04#8, 0x08#8, 0x10#8, 0x20#8, 0x40#8, 0x80#8, 0x39#8, 0x72#8, 0xE4#8, 0xF1#8, 0xDB#8, 0x8F#8,
   0x27#8, 0x4E#8, 0x9C#8]

/-- The columns of `GEN`: the parities of the data words with one set bit, for bits 0 to 8 (R53, R103). -/
def genColumns : List (BitVec 8) := [0x39#8, 0x72#8, 0xE4#8, 0xF1#8, 0xDB#8, 0x8F#8, 0x27#8, 0x4E#8, 0x9C#8]

/-- The exclusive or of the columns that stand at the set bits of `v`. -/
def xorColumns {w : Nat} (cols : List (BitVec 8)) (v : BitVec w) : BitVec 8 :=
  ((List.range w).filter fun j => v.getLsbD j).foldl (fun x j => x ^^^ cols.getD j 0#8) 0#8

/-- How a command leaves the registers, written out from the pseudocode of R85 and the rules of the six operations. The
model's record of the outcome is left as it was. -/
def commandEnd (i : Instr) (s : State) : State :=
  let fault (c : BitVec 3) : State :=
    { s with flt := 1#1, fcause := c, res := 0#17, cnt := 0#2, st := 0b00#2 }
  let ok (r : BitVec 17) (c : BitVec 2) : State := { s with res := r, cnt := c, st := 0b01#2 }
  if s.flt = 1#1 then s
  else
    match i with
    | .enc a => if a < 2 ^ 9 then ok (encodeData (BitVec.ofNat 9 a)) 0#2 else fault 2#3
    | .dec a =>
      if a < 2 ^ 17 then
        match decodeReceived s.params.patTable (BitVec.ofNat 17 a) with
        | some (d, n) => ok (d.setWidth 17) (BitVec.ofNat 2 n)
        | none => { s with res := 0#17, cnt := 0#2, st := 0b10#2 }
      else fault 3#3
    | .rot a => if a < 2 ^ 17 then ok (rot17 (BitVec.ofNat 17 a)) 0#2 else fault 4#3
    | .mulg a => if a < 2 ^ 9 then ok ((mulGen (BitVec.ofNat 9 a)).setWidth 17) 0#2 else fault 5#3
    | .syn a => if a < 2 ^ 17 then ok ((syndrome (BitVec.ofNat 17 a)).setWidth 17) 0#2 else fault 6#3
    | .pat a => if a < 2 ^ 8 then ok (pat s.params.patTable (BitVec.ofNat 8 a)) 0#2 else fault 7#3
    | .reserved6 _ => fault 1#3
    | .reserved7 _ => fault 1#3

end Sys2Proof.Machine

/-! Reset and the host's inputs. -/

/-- R35: what reset leaves in the five registers, and the contents that the tables hold for the first command. -/
def Obligations.ResetRegistersAndTables : Prop :=
  (State.reset.res = 0#17 ∧ State.reset.cnt = 0#2 ∧ State.reset.st = 0b00#2 ∧ State.reset.flt = 0#1 ∧
    State.reset.fcause = 0#3) ∧
  GEN.toList = [0x13C#9, 0x09E#9, 0x04F#9, 0x11B#9, 0x1B1#9, 0x1E4#9, 0x0F2#9, 0x079#9] ∧
  PAR.toList = [0x13C80#17, 0x09E40#17, 0x04F20#17, 0x11B10#17, 0x1B108#17, 0x1E404#17, 0x0F202#17, 0x07901#17] ∧
  ((List.range 256).filterMap fun s =>
      if pat State.reset.params.patTable (BitVec.ofNat 8 s) = 0#17 then none
      else some (s, (pat State.reset.params.patTable (BitVec.ofNat 8 s)).toNat)) =
    [(1, 0x00001), (3, 0x00003), (5, 0x00005), (9, 0x00009), (17, 0x00011), (33, 0x00021), (38, 0x04001),
     (56, 0x00101), (65, 0x00041), (79, 0x08001), (115, 0x00201), (129, 0x00081), (142, 0x02001), (157, 0x10001),
     (218, 0x01001), (229, 0x00401), (240, 0x00801)]

/-- The reset state is a legal state; the clauses on the build parameters and on the record of the outcome are about fields
of the model's own (log entries 3, 4). -/
def Obligations.ResetStateIsLegal : Prop := State.reset.Legal

/-- R190: a step with `rst` asserted leaves the reset state whatever the state was and whatever command stands beside it,
and no other step clears `FLT` or changes `FCAUSE` of a faulted CORE. -/
def Obligations.ResetPinRestoresResetState : Prop :=
  (∀ (s : State) (h : HostInput) (rest : List HostInput), s.inputs = h :: rest → h.rst = true →
    ∃ t, step s = .next t ∧ t.res = 0#17 ∧ t.cnt = 0#2 ∧ t.st = 0b00#2 ∧ t.flt = 0#1 ∧ t.fcause = 0#3) ∧
  (∀ s t : State, step s = .next t → s.flt = 1#1 → (t.flt = 0#1 ∨ t.fcause ≠ s.fcause) →
    ∃ h rest, s.inputs = h :: rest ∧ h.rst = true)

/-- The model's choice for reset (log entries 3, 4, 14): the build parameters and the inputs the host drives later stay, and
the record of the outcome is cleared. -/
def Obligations.ResetKeepsBuildAndLaterInputs : Prop :=
  ∀ (s : State) (h : HostInput) (rest : List HostInput), s.inputs = h :: rest → h.rst = true →
    step s = .next { State.reset with params := s.params, inputs := rest }

/-- Where the host presents nothing, no register changes (R178; the model's step for it is log entry 2). -/
def Obligations.IdleStepChangesNoRegister : Prop :=
  (∀ s : State, s.inputs = [] → step s = .next s) ∧
  (∀ (s : State) (h : HostInput) (rest : List HostInput), s.inputs = h :: rest → h.rst = false → h.cmd = none →
    step s = .next { s with inputs := rest })

/-- A step runs the decoded instruction: a command the decoder reads as `i` is `exec i` once it is taken from the host's
inputs (log entry 1). -/
def Obligations.StepRunsTheDecodedInstruction : Prop :=
  ∀ (s : State) (h : HostInput) (rest : List HostInput) (c : Command) (i : Instr),
    s.inputs = h :: rest → h.rst = false → h.cmd = some c → decodeCommand s.params.argw c = .ok i →
    step s = exec i { s with inputs := rest }

/-- A word of the opcode table, put in front of the host's inputs, is the instruction that the very next step runs, on every
build whose bus is at least as wide as the table's (log entries 7, 17). -/
def Obligations.TableWordRunsAtTheNextStep : Prop :=
  ∀ (s : State) (nbits w : Nat) (i : Instr), 32 ≤ s.params.argw → decodeTableWord nbits w = some i →
    step (s.withFetchWord nbits w) = exec i s

/-- An operand that does not fit the bus is no command, and the model refuses it by name (R90; log entry 5); every operand
that fits is decoded. -/
def Obligations.UnencodableOperandIsNoCommand : Prop :=
  (∀ (s : State) (h : HostInput) (rest : List HostInput) (c : Command),
    s.inputs = h :: rest → h.rst = false → h.cmd = some c → 2 ^ s.params.argw ≤ c.arg →
    step s = .refused .notACommand) ∧
  (∀ (argw : Nat) (c : Command), c.arg < 2 ^ argw → decodeCommand argw c = .ok (Instr.ofOpcode c.op c.arg))

/-- R85: every 35-bit word is a command, and a presented command ends as the pseudocode says. -/
def Obligations.PresentedCommandFollowsPseudocode : Prop :=
  (∀ word, word < 2 ^ 35 → ∃ i : Instr, i.WellFormed 32 ∧ decodeWord 32 word = .ok i) ∧
  (∀ (s : State) (i : Instr) (rest : List HostInput),
    s.inputs = HostInput.ofInstr i :: rest → i.WellFormed s.params.argw →
    ∃ o, step s = .next { commandEnd i { s with inputs := rest } with outcome := o })

/-! Faults and refusal. -/

/-- R171 and R172: with no fault recorded, a command faults exactly under the condition of its row in the table of
causes, with the cause of that row, and then writes the five registers as R172 says and nothing else. -/
def Obligations.ContractViolationEntersTheFaultState : Prop :=
  (∀ (i : Instr) (s : State), s.flt = 0#1 → breaksContract i = true → EndsFaulted i s (faultCause i)) ∧
  (∀ (i : Instr) (s t : State), s.flt = 0#1 → breaksContract i = false → exec i s = .next t →
    t.flt = 0#1 ∧ t.fcause = s.fcause)

/-- R176: a command presented to a faulted CORE changes no register and is recorded as refused; and through any number of
steps in which `rst` stays inactive, the fault state with its cause persists. -/
def Obligations.FaultPersistsUntilReset : Prop :=
  (∀ (i : Instr) (s : State), s.flt = 1#1 → exec i s = .next { s with outcome := .refused }) ∧
  (∀ (k : Nat) (s t : State), s.Legal → s.flt = 1#1 → (∀ h ∈ s.inputs.take k, h.rst = false) →
    Host.Core.run core k s = .next t →
    t.res = 0#17 ∧ t.cnt = 0#2 ∧ t.st = 0b00#2 ∧ t.flt = 1#1 ∧ t.fcause = s.fcause)

/-- R86: both reserved codes fault with cause 1 whatever their operand. -/
def Obligations.ReservedCodesFault : Prop :=
  (∀ (s : State) (arg : Nat), s.flt = 0#1 → EndsFaulted (.reserved6 arg) s 1#3) ∧
  (∀ (s : State) (arg : Nat), s.flt = 0#1 → EndsFaulted (.reserved7 arg) s 1#3) ∧
  EncodedAs 0b110 .reserved6 ∧ EncodedAs 0b111 .reserved7

/-- The model's own record says how each command ended (R27, R172, R176; log entry 4). -/
def Obligations.OutcomeRecordsHowTheCommandEnded : Prop :=
  ∀ (i : Instr) (s t : State), exec i s = .next t →
    (s.flt = 1#1 → t.outcome = .refused) ∧
    (s.flt = 0#1 → breaksContract i = true → t.outcome = .fault (faultCause i)) ∧
    (s.flt = 0#1 → breaksContract i = false →
      (t.st = 0b01#2 ∧ t.outcome = .ok) ∨ (t.st = 0b10#2 ∧ t.outcome = .fail ∧ ∃ arg, i = .dec arg))

/-! The six operations. -/

/-- R131. -/
def Obligations.EncResult : Prop :=
  EncodedAs 0b000 .enc ∧
  (∀ (s : State) (arg : Nat), s.flt = 0#1 → arg < 2 ^ 9 → EndsOk (.enc arg) s (encodeData (BitVec.ofNat 9 arg)) 0#2) ∧
  (∀ (s : State) (arg : Nat), s.flt = 0#1 → 2 ^ 9 ≤ arg → EndsFaulted (.enc arg) s 2#3) ∧
  (∀ s : State, s.flt = 0#1 →
    EndsOk (.enc 0x000) s 0x00000#17 0#2 ∧ EndsOk (.enc 0x1FF) s 0x1FFFF#17 0#2 ∧
    EndsOk (.enc 0x055) s 0x05521#17 0#2 ∧ EndsFaulted (.enc 0x200) s 2#3)

/-- DEC on every operand (R146, with the loop of R145 as the model's `decodeReceived`), and the corner cases R146 lists with
numbers. -/
def Obligations.DecResult : Prop :=
  EncodedAs 0b001 .dec ∧
  (∀ (s : State) (arg : Nat) (d : BitVec 9) (n : Nat), s.flt = 0#1 → arg < 2 ^ 17 →
    decodeReceived s.params.patTable (BitVec.ofNat 17 arg) = some (d, n) →
    n ≤ 2 ∧ EndsOk (.dec arg) s (d.setWidth 17) (BitVec.ofNat 2 n)) ∧
  (∀ (s : State) (arg : Nat), s.flt = 0#1 → arg < 2 ^ 17 →
    decodeReceived s.params.patTable (BitVec.ofNat 17 arg) = none → EndsFail (.dec arg) s) ∧
  (∀ (s : State) (arg : Nat), s.flt = 0#1 → 2 ^ 17 ≤ arg → EndsFaulted (.dec arg) s 3#3) ∧
  (∀ s : State, s.flt = 0#1 →
    EndsOk (.dec 0x00000) s 0x000#17 0#2 ∧ EndsOk (.dec 0x1FFFF) s 0x1FF#17 0#2 ∧
    EndsOk (.dec 0x05D29) s 0x055#17 2#2 ∧ EndsFail (.dec 0x0000B) s ∧ EndsFaulted (.dec 0x20000) s 3#3)

/-- R121: the result written with the shifts of R120's integer expression. -/
def Obligations.RotResult : Prop :=
  EncodedAs 0b010 .rot ∧
  (∀ (s : State) (arg : Nat), s.flt = 0#1 → arg < 2 ^ 17 →
    EndsOk (.rot arg) s ((BitVec.ofNat 17 arg >>> 1) ||| ((BitVec.ofNat 17 arg &&& 1#17) <<< 16)) 0#2) ∧
  (∀ (s : State) (arg : Nat), s.flt = 0#1 → 2 ^ 17 ≤ arg → EndsFaulted (.rot arg) s 4#3) ∧
  (∀ s : State, s.flt = 0#1 →
    EndsOk (.rot 0x00000) s 0x00000#17 0#2 ∧ EndsOk (.rot 0x10000) s 0x08000#17 0#2 ∧
    EndsOk (.rot 0x00001) s 0x10000#17 0#2 ∧ EndsOk (.rot 0x1FFFF) s 0x1FFFF#17 0#2 ∧
    EndsOk (.rot 0x05521) s 0x12A90#17 0#2)

/-- R104. -/
def Obligations.MulgResult : Prop :=
  EncodedAs 0b011 .mulg ∧
  (∀ (s : State) (arg : Nat), s.flt = 0#1 → arg < 2 ^ 9 →
    EndsOk (.mulg arg) s ((mulGen (BitVec.ofNat 9 arg)).setWidth 17) 0#2 ∧
    ((mulGen (BitVec.ofNat 9 arg)).setWidth 17).toNat < 2 ^ 8) ∧
  (∀ (s : State) (arg : Nat), s.flt = 0#1 → 2 ^ 9 ≤ arg → EndsFaulted (.mulg arg) s 5#3) ∧
  (∀ s : State, s.flt = 0#1 →
    EndsOk (.mulg 0x000) s 0x00000#17 0#2 ∧ EndsOk (.mulg 0x1FF) s 0x000FF#17 0#2 ∧
    EndsOk (.mulg 0x055) s 0x00021#17 0#2)

/-- R106. -/
def Obligations.SynResult : Prop :=
  EncodedAs 0b100 .syn ∧
  (∀ (s : State) (arg : Nat), s.flt = 0#1 → arg < 2 ^ 17 →
    EndsOk (.syn arg) s ((syndrome (BitVec.ofNat 17 arg)).setWidth 17) 0#2) ∧
  (∀ (s : State) (arg : Nat), s.flt = 0#1 → 2 ^ 17 ≤ arg → EndsFaulted (.syn arg) s 6#3) ∧
  (∀ s : State, s.flt = 0#1 →
    (∀ w, IsCodeword w → EndsOk (.syn w.toNat) s 0#17 0#2) ∧
    (∀ k, k < 17 → EndsOk (.syn (2 ^ k)) s ((parColumns.getD k 0#8).setWidth 17) 0#2) ∧
    EndsOk (.syn 0) s 0#17 0#2 ∧ EndsOk (.syn 0x1FFFF) s 0#17 0#2 ∧ EndsOk (.syn 0x05521) s 0#17 0#2 ∧
    EndsOk (.syn 0x15521) s 0x0009C#17 0#2)

/-- R142: under either value of `PAT_TABLE`, which the state names. -/
def Obligations.PatResult : Prop :=
  EncodedAs 0b101 .pat ∧
  (∀ (s : State) (arg : Nat), s.flt = 0#1 → arg < 2 ^ 8 →
    EndsOk (.pat arg) s (pat s.params.patTable (BitVec.ofNat 8 arg)) 0#2) ∧
  (∀ (s : State) (arg : Nat), s.flt = 0#1 → 2 ^ 8 ≤ arg → EndsFaulted (.pat arg) s 7#3) ∧
  (∀ s : State, s.flt = 0#1 →
    EndsOk (.pat 0x00) s 0#17 0#2 ∧ EndsOk (.pat 0x01) s 0x00001#17 0#2 ∧ EndsOk (.pat 0x02) s 0#17 0#2 ∧
    EndsOk (.pat 0x9D) s 0x10001#17 0#2) ∧
  (∀ s : State, s.flt = 0#1 → s.params.patTable = .full17 →
    EndsOk (.pat 0x26) s 0x04001#17 0#2 ∧ EndsOk (.pat 0x38) s 0x00101#17 0#2 ∧ EndsOk (.pat 0x8E) s 0x02001#17 0#2 ∧
    EndsOk (.pat 0xDA) s 0x01001#17 0#2 ∧ EndsOk (.pat 0xF0) s 0x00801#17 0#2) ∧
  (∀ s : State, s.flt = 0#1 → s.params.patTable = .sparse12 →
    EndsOk (.pat 0x26) s 0#17 0#2 ∧ EndsOk (.pat 0x38) s 0#17 0#2 ∧ EndsOk (.pat 0x8E) s 0#17 0#2 ∧
    EndsOk (.pat 0xDA) s 0#17 0#2 ∧ EndsOk (.pat 0xF0) s 0#17 0#2)

/-- Frame: a command that keeps its contract leaves the fault registers alone, and a refused one leaves all five registers
alone. The clauses on `params` and `inputs`, which no command of any kind touches, are about fields that are the model's
own choice and no registers of CORE (log entries 3 and 1). -/
def Obligations.CommandFrame : Prop :=
  ∀ (i : Instr) (s t : State), exec i s = .next t →
    t.params = s.params ∧ t.inputs = s.inputs ∧
    (s.flt = 1#1 ∨ breaksContract i = false → t.flt = s.flt ∧ t.fcause = s.fcause) ∧
    (s.flt = 1#1 → t.res = s.res ∧ t.cnt = s.cnt ∧ t.st = s.st)

/-- Every instruction answers a next state from every state: none stops the machine (R196). -/
def Obligations.EveryInstructionAnswersANextState : Prop :=
  ∀ (i : Instr) (s : State), ∃ t, exec i s = .next t

/-! The functions the operations compute. -/

/-- R100: row r of a matrix gives result bit R - 1 - r, the parity of the row and the vector; CORE uses the product
with `GEN` and with `PAR`. -/
def Obligations.MatrixRowGivesResultBit : Prop :=
  (∀ (R W : Nat) (M : Vector (BitVec W) R) (v : BitVec W) (r : Nat) (h : r < R),
    (gf2Mul M v).getLsbD (R - 1 - r) = parity (M[r] &&& v)) ∧
  (∀ d : BitVec 9, mulGen d = gf2Mul GEN d) ∧ (∀ w : BitVec 17, syndrome w = gf2Mul PAR w)

/-- The laws of the product over GF(2): zero, linearity, and the columns (R101). -/
def Obligations.MatrixProductIsLinear : Prop :=
  ∀ (R W : Nat) (M : Vector (BitVec W) R),
    gf2Mul M 0#W = 0#R ∧
    (∀ a b : BitVec W, gf2Mul M (a ^^^ b) = gf2Mul M a ^^^ gf2Mul M b) ∧
    (∀ (j : Nat) (r : Nat) (h : r < R), j < W →
      (gf2Mul M (BitVec.twoPow W j)).getLsbD (R - 1 - r) = M[r].getLsbD j) ∧
    (∀ v : BitVec W, gf2Mul M v =
      ((List.range W).filter fun j => v.getLsbD j).foldl (fun x j => x ^^^ gf2Mul M (BitVec.twoPow W j)) 0#R)

/-- R103: the parity byte by rows and by columns. -/
def Obligations.ParityByRowsAndColumns : Prop :=
  ∀ d : BitVec 9,
    (∀ (i : Nat) (h : i < 8), (mulGen d).getLsbD i = parity (GEN[7 - i] &&& d)) ∧ mulGen d = xorColumns genColumns d

/-- R105: the syndrome by rows. -/
def Obligations.SyndromeByRows : Prop :=
  ∀ (w : BitVec 17) (i : Nat) (h : i < 8), (syndrome w).getLsbD i = parity (PAR[7 - i] &&& w)

/-- The construction of `PAR` from `GEN` and the syndrome by columns (R55, R56). -/
def Obligations.ParityCheckMatrixFromGenerator : Prop :=
  (∀ (r : Nat) (h : r < 8), PAR[r] = ((GEN[r].setWidth 17) <<< 8) ||| (1#17 <<< (7 - r))) ∧
  (∀ w : BitVec 17, syndrome w = xorColumns parColumns w)

/-- The identities of the syndrome (R107). -/
def Obligations.SyndromeIdentities : Prop :=
  (∀ w : BitVec 17, syndrome w = mulGen (w.extractLsb' 8 9) ^^^ w.extractLsb' 0 8) ∧
  (∀ d : BitVec 9, syndrome (encodeData d) = 0#8) ∧
  (∀ w : BitVec 17, syndrome w = 0#8 ↔ IsCodeword w) ∧
  (∀ c e : BitVec 17, IsCodeword c → syndrome (c ^^^ e) = syndrome e)

/-- R120: the rotated word bit by bit and as an integer expression. -/
def Obligations.RotationByBits : Prop :=
  ∀ w : BitVec 17,
    (rot17 w).getLsbD 16 = w.getLsbD 0 ∧ (∀ i, i < 16 → (rot17 w).getLsbD i = w.getLsbD (i + 1)) ∧
    rot17 w = (w >>> 1) ||| ((w &&& 1#17) <<< 16)

/-- The laws of the rotation (R122). The bit that began at position i stands at (i - k) mod 17 after k applications, and
-k is 16 k modulo 17. -/
def Obligations.RotationIsASeventeenCycle : Prop :=
  (∀ w : BitVec 17, rot17^[17] w = w) ∧
  (∀ k, 0 < k → k < 17 → ∃ w : BitVec 17, rot17^[k] w ≠ w) ∧
  Function.Bijective rot17 ∧
  (∀ w : BitVec 17, popcount (rot17 w) = popcount w) ∧
  (∀ a b : BitVec 17, rot17 (a ^^^ b) = rot17 a ^^^ rot17 b) ∧
  (∀ (k i : Nat) (w : BitVec 17), i < 17 → (rot17^[k] w).getLsbD ((i + 16 * k) % 17) = w.getLsbD i) ∧
  (∀ c : BitVec 17, syndrome c = 0#8 → syndrome (rot17 c) = 0#8)

/-- R130: the codeword's high 9 bits are the data and its low 8 bits are the parity. -/
def Obligations.CodewordIsDataThenParity : Prop :=
  ∀ d : BitVec 9,
    (encodeData d).extractLsb' 8 9 = d ∧ (encodeData d).extractLsb' 0 8 = mulGen d ∧
    encodeData d = (d.setWidth 17 <<< 8) ||| (mulGen d).setWidth 17

/-- The code is linear, cyclic and of minimum distance 5 (R132, R3). -/
def Obligations.CodeIsLinearCyclicWithDistanceFive : Prop :=
  (∀ a b : BitVec 9, encodeData (a ^^^ b) = encodeData a ^^^ encodeData b) ∧
  encodeData 0#9 = 0#17 ∧
  Function.Injective encodeData ∧
  (∀ c, IsCodeword c → IsCodeword (rot17 c)) ∧
  (∀ c c', IsCodeword c → IsCodeword c' → IsCodeword (c ^^^ c')) ∧
  (∀ c, IsCodeword c → c ≠ 0#17 → 5 ≤ popcount c) ∧
  (∀ c c', IsCodeword c → IsCodeword c' → c ≠ c' → 5 ≤ popcount (c ^^^ c')) ∧
  ∃ c, IsCodeword c ∧ popcount c = 5

/-- The constructive contents of the pattern table, and the five entries that SPARSE12 clears (R57, R58). The seventeen
patterns are `1 | (1 << j)`, the single error at j = 0 and the sixteen double errors at j = 1 to 16. -/
def Obligations.PatternTableByConstruction : Prop :=
  (∀ p : BitVec 17, p.getLsbD 0 = true → popcount p ≤ 2 → pat .full17 (syndrome p) = p) ∧
  (∀ s : BitVec 8, (∀ j, j < 17 → syndrome (1#17 ||| BitVec.twoPow 17 j) ≠ s) → pat .full17 s = 0#17) ∧
  (∀ s : BitVec 8, pat .sparse12 s =
    if s = 0x26#8 ∨ s = 0x38#8 ∨ s = 0x8E#8 ∨ s = 0xDA#8 ∨ s = 0xF0#8 then 0#17 else pat .full17 s) ∧
  (∀ s : BitVec 8, pat .sparse12 s = if s.getLsbD 0 = true then pat .full17 s else 0#17)

/-- What both tables guarantee (R59, R141): a stored pattern has bit 0 set and weight 1 or 2, its syndrome is its index,
and applying it to a word of that syndrome gives a codeword. -/
def Obligations.StoredPatternsTrapErrors : Prop :=
  ∀ t : Config.PatTable,
    pat t 0#8 = 0#17 ∧ pat t 1#8 = 1#17 ∧
    (∀ s : BitVec 8, pat t s ≠ 0#17 →
      (pat t s).getLsbD 0 = true ∧ (popcount (pat t s) = 1 ∨ popcount (pat t s) = 2) ∧ syndrome (pat t s) = s) ∧
    (∀ w : BitVec 17, pat t (syndrome w) ≠ 0#17 → IsCodeword (w ^^^ pat t (syndrome w)))

/-- R143: the three branches of one decoder iteration. -/
def Obligations.DecoderIterationBranches : Prop :=
  ∀ (t : Config.PatTable) (acc : Option Nat) (cur : BitVec 17),
    (syndrome cur = 0#8 → decStep t ⟨acc, cur⟩ = ⟨acc, rot17 cur⟩) ∧
    (syndrome cur ≠ 0#8 → pat t (syndrome cur) = 0#17 → decStep t ⟨acc, cur⟩ = ⟨none, rot17 cur⟩) ∧
    (syndrome cur ≠ 0#8 → pat t (syndrome cur) ≠ 0#17 →
      decStep t ⟨acc, cur⟩ =
        ⟨some (popcount (pat t (syndrome cur))), rot17 (cur ^^^ pat t (syndrome cur))⟩)

/-- R145: exactly 17 iterations from a defined accumulator and the received word, then the top 9 bits and the count. -/
def Obligations.DecoderRunsSeventeenIterations : Prop :=
  ∀ (t : Config.PatTable) (w : BitVec 17),
    (∀ n, ((decStep t)^[17] ⟨some 0, w⟩).acc = some n →
      decodeReceived t w = some (((decStep t)^[17] ⟨some 0, w⟩).cur.extractLsb' 8 9, n)) ∧
    (((decStep t)^[17] ⟨some 0, w⟩).acc = none → decodeReceived t w = none)

/-- The consequences of one iteration for the whole loop (R144): after a pattern is applied the word is a codeword; on a
codeword the loop only rotates; and until a pattern is found the word is only rotated and the accumulator is undefined. -/
def Obligations.AtMostOnePatternIsApplied : Prop :=
  (∀ (t : Config.PatTable) (x : DecWork), pat t (syndrome x.cur) ≠ 0#17 → syndrome (decStep t x).cur = 0#8) ∧
  (∀ (t : Config.PatTable) (n : Nat) (x : DecWork), syndrome x.cur = 0#8 →
    decLoop t n x = ⟨x.acc, rot17^[n] x.cur⟩) ∧
  (∀ (t : Config.PatTable) (n : Nat) (w : BitVec 17),
    (∀ k, k < n → syndrome (rot17^[k] w) ≠ 0#8 ∧ pat t (syndrome (rot17^[k] w)) = 0#17) →
    decLoop t n (decStart w) = ⟨if n = 0 then some 0 else none, rot17^[n] w⟩)

/-- The decoding guarantee (R147): no more than two inverted bits, anywhere, are corrected and counted, for every data word
and under either pattern table. -/
def Obligations.DecoderCorrectsTwoErrors : Prop :=
  ∀ (t : Config.PatTable) (d : BitVec 9) (e : BitVec 17), popcount e ≤ 2 →
    decodeReceived t (encodeData d ^^^ e) = some (d, popcount e)

/-- The exact behaviour of the decoder on every word (R148). -/
def Obligations.DecoderIsBoundedDistanceTwo : Prop :=
  ∀ (t : Config.PatTable) (w : BitVec 17),
    (∀ (d : BitVec 9) (n : Nat),
      decodeReceived t w = some (d, n) ↔ popcount (w ^^^ encodeData d) = n ∧ n ≤ 2) ∧
    (decodeReceived t w = none ↔ ∀ d : BitVec 9, 3 ≤ popcount (w ^^^ encodeData d))

/-- The choice of pattern table cannot be seen through the decoder (R58). -/
def Obligations.DecoderIgnoresThePatternTableChoice : Prop :=
  ∀ w : BitVec 17, decodeReceived .full17 w = decodeReceived .sparse12 w

/-! The machine as a whole. -/

/-- Every step keeps the state legal, whatever the host drives; the clauses on the build parameters and on the record of the
outcome are about fields of the model's own (log entries 3, 4). -/
def Obligations.StepKeepsTheStateLegal : Prop :=
  ∀ s t : State, s.Legal → step s = .next t → t.Legal

/-- R20: what a command does to the registers depends on the command and the tables alone. Two legal states without a fault
and with the same pattern table end alike, whatever else they hold and however wide their buses are. -/
def Obligations.ResultDependsOnTheCommandAlone : Prop :=
  ∀ (i : Instr) (s s' : State), s.Legal → s'.Legal → s.flt = 0#1 → s'.flt = 0#1 →
    s.params.patTable = s'.params.patTable →
    ∃ t t', exec i s = .next t ∧ exec i s' = .next t' ∧ t.SameRegisters t'

/-- Decode failure is an ordinary end of DEC: no fault is recorded and the next command, whatever it is, ends as it would
have ended without the failed DEC (R28, R150, R170). -/
def Obligations.DecodeFailureIsNoFault : Prop :=
  ∀ (s : State) (arg : Nat), s.flt = 0#1 → arg < 2 ^ 17 →
    decodeReceived s.params.patTable (BitVec.ofNat 17 arg) = none →
    ∃ t, exec (.dec arg) s = .next t ∧ t.flt = 0#1 ∧ t.fcause = s.fcause ∧ t.st = 0b10#2 ∧
      ∀ i : Instr, ∃ u u', exec i t = .next u ∧ exec i s = .next u' ∧ u.SameRegisters u'

/-- Through the machine: what ENC leaves in `RES`, with at most two bits inverted by the host, is decoded by DEC to the data
that was encoded, with the number of inverted bits in `CNT` (R131, R146, R147). -/
def Obligations.EncodedDataSurvivesTwoErrors : Prop :=
  ∀ (s : State) (d : BitVec 9) (e : BitVec 17), s.flt = 0#1 → popcount e ≤ 2 →
    ∃ s1 s2, exec (.enc d.toNat) s = .next s1 ∧ exec (.dec (s1.res ^^^ e).toNat) s1 = .next s2 ∧
      s2.res = d.setWidth 17 ∧ s2.cnt.toNat = popcount e ∧ s2.st = 0b01#2 ∧ s2.flt = 0#1

/-- A run over a loaded program ends, and it has gone wrong exactly when some command of the program breaks its contract;
the cause is then that of the first such command (R198, R171, R176). How the program is loaded, and that no input is left
at the end, is the model's choice (log entries 1, 7). -/
def Obligations.RunGoesWrongExactlyOnAViolation : Prop :=
  ∀ (program : List Instr) (s : State), s.Loaded program → (∀ i ∈ program, i.WellFormed s.params.argw) → s.flt = 0#1 →
    ∃ t, Host.Core.run core program.length s = .next t ∧ t.inputs = [] ∧
      (t.GoneWrong ↔ ∃ i ∈ program, breaksContract i = true) ∧
      (∀ i, program.find? breaksContract = some i → t.fcause = faultCause i)

/-- A run whose commands before the last keep their contracts ends with the registers that the last command alone would
have left (R198). How the program is loaded is the model's choice (log entries 1, 7), and so is the record of the outcome
that the last clause compares (log entry 4). -/
def Obligations.RunEndsWithTheLastCommandsResult : Prop :=
  ∀ (program : List Instr) (last : Instr) (s : State), s.Loaded (program ++ [last]) →
    (∀ i ∈ program ++ [last], i.WellFormed s.params.argw) → s.flt = 0#1 →
    (∀ i ∈ program, breaksContract i = false) →
    ∃ t u, Host.Core.run core (program.length + 1) s = .next t ∧ exec last s = .next u ∧ t.SameRegisters u ∧
      t.outcome = u.outcome

/-- A step of one instance leaves the states of the others as they are, and the steps of two instances may be taken in
either order (R184; log entry 16). -/
def Obligations.InstancesDoNotAffectEachOther : Prop :=
  (∀ (k : Nat) (xs ys : List State), stepInstance k xs = .next ys →
    ys.length = xs.length ∧ (∀ j, j ≠ k → ys[j]? = xs[j]?) ∧
    (∀ s, xs[k]? = some s → ∃ t, step s = .next t ∧ ys[k]? = some t)) ∧
  (∀ (j k : Nat) (xs ys zs : List State), j ≠ k → stepInstance j xs = .next ys → stepInstance k ys = .next zs →
    ∃ ys', stepInstance k xs = .next ys' ∧ stepInstance j ys' = .next zs)

/-! Encoding. -/

/-- For every bus width, decoding the encoding of a well-formed instruction gives the instruction back. -/
def Obligations.DecodeOfEncodeIsTheInstruction : Prop :=
  ∀ (argw : Nat) (i : Instr), i.WellFormed argw → decodeWord argw (encode argw i) = .ok i

/-- For every bus width, a word that decodes is the encoding of a well-formed instruction, and every word of 3 + ARGW
bits decodes. -/
def Obligations.EncodeOfDecodeIsTheWord : Prop :=
  (∀ (argw word : Nat) (i : Instr), decodeWord argw word = .ok i → i.WellFormed argw ∧ encode argw i = word) ∧
  (∀ argw word : Nat, word < 2 ^ (argw + 3) → ∃ i, decodeWord argw word = .ok i) ∧
  (∀ argw word : Nat, 2 ^ (argw + 3) ≤ word → decodeWord argw word = .error .wordTooLong)

/-- The words R92 lists, decoded and encoded. -/
def Obligations.ListedWordsDecode : Prop :=
  decodeWord 32 0x000000055 = .ok (.enc 0x055) ∧ decodeWord 32 0x100005521 = .ok (.dec 0x05521) ∧
  decodeWord 32 0x200000001 = .ok (.rot 0x00001) ∧ decodeWord 32 0x3000001FF = .ok (.mulg 0x1FF) ∧
  decodeWord 32 0x400010000 = .ok (.syn 0x10000) ∧ decodeWord 32 0x50000009D = .ok (.pat 0x9D) ∧
  decodeWord 32 0x600000000 = .ok (.reserved6 0) ∧ decodeWord 32 0x700000000 = .ok (.reserved7 0) ∧
  encode 32 (.enc 0x055) = 0x000000055 ∧ encode 32 (.dec 0x05521) = 0x100005521 ∧
  encode 32 (.rot 0x00001) = 0x200000001 ∧ encode 32 (.mulg 0x1FF) = 0x3000001FF ∧
  encode 32 (.syn 0x10000) = 0x400010000 ∧ encode 32 (.pat 0x9D) = 0x50000009D ∧
  encode 32 (.reserved6 0) = 0x600000000

/-- The bus width decides only which operands can be presented, never what a command is (R8, D3). -/
def Obligations.BusWidthDoesNotChangeACommand : Prop :=
  ∀ (a b : Nat) (c : Command), c.Fits a → c.Fits b → decodeCommand a c = decodeCommand b c
end

