-- ==== Sys2Proof/Laws/Decode.lean ====
section
/-! SUPPORT. Small lemmas about decoding and encoding commands. -/

namespace Sys2Proof

@[simp] theorem Instr.toCommand_op (i : Instr) : i.toCommand.op = i.opcode := rfl
@[simp] theorem Instr.toCommand_arg (i : Instr) : i.toCommand.arg = i.arg := rfl

/-- Decoding the ports succeeds exactly when the bus can carry the operand. -/
theorem decodeCommand_of_fits {argw : Nat} {c : Command} (h : c.Fits argw) :
    decodeCommand argw c = .ok (Instr.ofOpcode c.op c.arg) := by
  rw [decodeCommand, if_pos]
  rw [Nat.shiftRight_eq_div_pow]
  exact Nat.div_eq_of_lt h

theorem decodeCommand_of_not_fits {argw : Nat} {c : Command} (h : ¬ c.Fits argw) :
    decodeCommand argw c = .error .operandTooWide := by
  rw [decodeCommand, if_neg]
  rw [Nat.shiftRight_eq_div_pow]
  intro h0
  have hz := (Nat.div_eq_zero_iff.1 h0).resolve_left (Nat.two_pow_pos argw).ne'
  exact h hz

end Sys2Proof
end

