-- ==== Sys2Proof/Laws/State.lean ====
section
/-! SUPPORT. One lemma per field for each update of the state, so that no proof unfolds a record update. -/

namespace Sys2Proof.Machine

variable (s : State)

@[simp] theorem State.writeOk_res (r : BitVec 17) (c : BitVec 2) : (s.writeOk r c).res = r := rfl
@[simp] theorem State.writeOk_cnt (r : BitVec 17) (c : BitVec 2) : (s.writeOk r c).cnt = c := rfl
@[simp] theorem State.writeOk_st (r : BitVec 17) (c : BitVec 2) : (s.writeOk r c).st = stOk := rfl
@[simp] theorem State.writeOk_flt (r : BitVec 17) (c : BitVec 2) : (s.writeOk r c).flt = s.flt := rfl
@[simp] theorem State.writeOk_fcause (r : BitVec 17) (c : BitVec 2) : (s.writeOk r c).fcause = s.fcause := rfl
@[simp] theorem State.writeOk_params (r : BitVec 17) (c : BitVec 2) : (s.writeOk r c).params = s.params := rfl
@[simp] theorem State.writeOk_inputs (r : BitVec 17) (c : BitVec 2) : (s.writeOk r c).inputs = s.inputs := rfl
@[simp] theorem State.writeOk_outcome (r : BitVec 17) (c : BitVec 2) : (s.writeOk r c).outcome = .ok := rfl

@[simp] theorem State.writeFail_res : (s.writeFail).res = 0#17 := rfl
@[simp] theorem State.writeFail_cnt : (s.writeFail).cnt = 0#2 := rfl
@[simp] theorem State.writeFail_st : (s.writeFail).st = stFail := rfl
@[simp] theorem State.writeFail_flt : (s.writeFail).flt = s.flt := rfl
@[simp] theorem State.writeFail_fcause : (s.writeFail).fcause = s.fcause := rfl
@[simp] theorem State.writeFail_params : (s.writeFail).params = s.params := rfl
@[simp] theorem State.writeFail_inputs : (s.writeFail).inputs = s.inputs := rfl
@[simp] theorem State.writeFail_outcome : (s.writeFail).outcome = .fail := rfl

@[simp] theorem State.raiseFault_res (c : Cause) : (s.raiseFault c).res = 0#17 := rfl
@[simp] theorem State.raiseFault_cnt (c : Cause) : (s.raiseFault c).cnt = 0#2 := rfl
@[simp] theorem State.raiseFault_st (c : Cause) : (s.raiseFault c).st = stNone := rfl
@[simp] theorem State.raiseFault_flt (c : Cause) : (s.raiseFault c).flt = 1#1 := rfl
@[simp] theorem State.raiseFault_fcause (c : Cause) : (s.raiseFault c).fcause = c := rfl
@[simp] theorem State.raiseFault_params (c : Cause) : (s.raiseFault c).params = s.params := rfl
@[simp] theorem State.raiseFault_inputs (c : Cause) : (s.raiseFault c).inputs = s.inputs := rfl
@[simp] theorem State.raiseFault_outcome (c : Cause) : (s.raiseFault c).outcome = .fault c := rfl

@[simp] theorem State.refuse_res : (s.refuse).res = s.res := rfl
@[simp] theorem State.refuse_cnt : (s.refuse).cnt = s.cnt := rfl
@[simp] theorem State.refuse_st : (s.refuse).st = s.st := rfl
@[simp] theorem State.refuse_flt : (s.refuse).flt = s.flt := rfl
@[simp] theorem State.refuse_fcause : (s.refuse).fcause = s.fcause := rfl
@[simp] theorem State.refuse_params : (s.refuse).params = s.params := rfl
@[simp] theorem State.refuse_inputs : (s.refuse).inputs = s.inputs := rfl
@[simp] theorem State.refuse_outcome : (s.refuse).outcome = .refused := rfl

@[simp] theorem State.applyReset_res : (s.applyReset).res = 0#17 := rfl
@[simp] theorem State.applyReset_cnt : (s.applyReset).cnt = 0#2 := rfl
@[simp] theorem State.applyReset_st : (s.applyReset).st = stNone := rfl
@[simp] theorem State.applyReset_flt : (s.applyReset).flt = 0#1 := rfl
@[simp] theorem State.applyReset_fcause : (s.applyReset).fcause = 0#3 := rfl
@[simp] theorem State.applyReset_params : (s.applyReset).params = s.params := rfl
@[simp] theorem State.applyReset_inputs : (s.applyReset).inputs = s.inputs := rfl
@[simp] theorem State.applyReset_outcome : (s.applyReset).outcome = .none := rfl

@[simp] theorem State.idle_res : (s.idle).res = s.res := rfl
@[simp] theorem State.idle_cnt : (s.idle).cnt = s.cnt := rfl
@[simp] theorem State.idle_st : (s.idle).st = s.st := rfl
@[simp] theorem State.idle_flt : (s.idle).flt = s.flt := rfl
@[simp] theorem State.idle_fcause : (s.idle).fcause = s.fcause := rfl
@[simp] theorem State.idle_params : (s.idle).params = s.params := rfl
@[simp] theorem State.idle_inputs : (s.idle).inputs = s.inputs := rfl
@[simp] theorem State.idle_outcome : (s.idle).outcome = s.outcome := rfl

end Sys2Proof.Machine
end

