-- ==== Sys2Proof/Laws/Ops.lean ====
section
/-! SUPPORT. One lemma for each shared operation that says once everything it can do. -/

namespace Sys2Proof.Machine

/-- The width check passes exactly on the operands below `2 ^ W`. -/
theorem operandExceeds_eq_false (W arg : Nat) : operandExceeds W arg = false ↔ arg < 2 ^ W := by
  simp [operandExceeds, Nat.shiftRight_eq_div_pow]

/-- The width check fails exactly on the operands from `2 ^ W` on. -/
theorem operandExceeds_eq_true (W arg : Nat) : operandExceeds W arg = true ↔ 2 ^ W ≤ arg := by
  simp [← Bool.not_eq_false, operandExceeds_eq_false]

/-- An operand that passes the width check keeps its value: nothing is cut (R82). -/
theorem operandValue_toNat {W arg : Nat} (h : arg < 2 ^ W) : (operandValue W arg).toNat = arg := by
  simp [operandValue, Nat.mod_eq_of_lt h]

/-- A one-bit flag that is not 1 is 0. -/
theorem flt_eq_zero_of_ne_one {b : BitVec 1} (h : b ≠ 1#1) : b = 0#1 := by
  revert h; revert b; decide

theorem unlessFaulted_of_faulted {s : State} (h : s.flt = 1#1) (perform : State → State) :
    unlessFaulted s perform = .next s.refuse := by
  simp [unlessFaulted, h]

theorem unlessFaulted_of_ready {s : State} (h : s.flt = 0#1) (perform : State → State) :
    unlessFaulted s perform = .next (perform s) := by
  simp [unlessFaulted, h]

/-- Everything the refusal test can do. -/
theorem unlessFaulted_cases {s t : State} {perform : State → State} (h : unlessFaulted s perform = .next t) :
    (s.flt = 1#1 ∧ t = s.refuse) ∨ (s.flt = 0#1 ∧ t = perform s) := by
  by_cases hf : s.flt = 1#1
  · rw [unlessFaulted_of_faulted hf] at h
    exact .inl ⟨hf, by injection h with h; exact h.symm⟩
  · have hz := flt_eq_zero_of_ne_one hf
    rw [unlessFaulted_of_ready hz] at h
    exact .inr ⟨hz, by injection h with h; exact h.symm⟩

/-- Everything the frame of an operation can do: refuse, fault on a wide operand, or perform the operation (R85). -/
theorem runOperation_cases {W : Nat} {c : Cause} {arg : Nat} {perform : BitVec W → State → State} {s t : State}
    (h : runOperation W c arg perform s = .next t) :
    (s.flt = 1#1 ∧ t = s.refuse) ∨
    (s.flt = 0#1 ∧ 2 ^ W ≤ arg ∧ t = s.raiseFault c) ∨
    (s.flt = 0#1 ∧ arg < 2 ^ W ∧ t = perform (operandValue W arg) s) := by
  rcases unlessFaulted_cases h with hr | ⟨hz, ht⟩
  · exact .inl hr
  · by_cases hw : operandExceeds W arg = true
    · rw [if_pos hw] at ht
      exact .inr (.inl ⟨hz, (operandExceeds_eq_true W arg).1 hw, ht⟩)
    · rw [if_neg hw] at ht
      exact .inr (.inr ⟨hz, (operandExceeds_eq_false W arg).1 (by simpa using hw), ht⟩)

/-- An operation always answers a next state. -/
theorem runOperation_next (W : Nat) (c : Cause) (arg : Nat) (perform : BitVec W → State → State) (s : State) :
    ∃ t, runOperation W c arg perform s = .next t := by
  unfold runOperation unlessFaulted
  split <;> exact ⟨_, rfl⟩

theorem runOperation_of_faulted {W : Nat} {c : Cause} {arg : Nat} {perform : BitVec W → State → State} {s : State}
    (h : s.flt = 1#1) : runOperation W c arg perform s = .next s.refuse :=
  unlessFaulted_of_faulted h _

theorem runOperation_of_wide {W : Nat} {c : Cause} {arg : Nat} {perform : BitVec W → State → State} {s : State}
    (h : s.flt = 0#1) (hw : 2 ^ W ≤ arg) : runOperation W c arg perform s = .next (s.raiseFault c) := by
  rw [runOperation, unlessFaulted_of_ready h, if_pos ((operandExceeds_eq_true W arg).2 hw)]

theorem runOperation_of_fits {W : Nat} {c : Cause} {arg : Nat} {perform : BitVec W → State → State} {s : State}
    (h : s.flt = 0#1) (hw : arg < 2 ^ W) :
    runOperation W c arg perform s = .next (perform (operandValue W arg) s) := by
  rw [runOperation, unlessFaulted_of_ready h, if_neg (by simp [(operandExceeds_eq_false W arg).2 hw])]

/-- Everything a reserved code can do. -/
theorem runReserved_cases {s t : State} (h : runReserved s = .next t) :
    (s.flt = 1#1 ∧ t = s.refuse) ∨ (s.flt = 0#1 ∧ t = s.raiseFault 1#3) :=
  unlessFaulted_cases h

@[simp] theorem State.takeInput_nil {s : State} (h : s.inputs = []) :
    s.takeInput = ({ rst := false, cmd := none }, s) := by
  simp [State.takeInput, h]

@[simp] theorem State.takeInput_cons {s : State} {x : HostInput} {rest : List HostInput} (h : s.inputs = x :: rest) :
    s.takeInput = (x, { s with inputs := rest }) := by
  simp [State.takeInput, h]

/-- Taking the host's next input changes nothing but the list of inputs. -/
theorem State.takeInput_frame (s : State) : s.takeInput.2 = { s with inputs := s.inputs.tail } := by
  rcases hi : s.inputs with _ | ⟨x, rest⟩
  · rw [State.takeInput_nil hi]; cases s; simp_all
  · rw [State.takeInput_cons hi]; rfl

end Sys2Proof.Machine
end

