-- ==== Sys2Proof/Laws/Exec.lean ====
section
/-! SUPPORT. Each instruction's meaning as one use of the frame of an operation, so that proofs cite the frame's lemmas. -/

namespace Sys2Proof.Machine

variable (arg : Nat) (s : State)

theorem exec_enc : exec (.enc arg) s = runOperation 9 2#3 arg (fun d s => s.writeOk (encodeData d) 0#2) s := rfl

theorem exec_rot : exec (.rot arg) s = runOperation 17 4#3 arg (fun w s => s.writeOk (rot17 w) 0#2) s := rfl

theorem exec_mulg :
    exec (.mulg arg) s = runOperation 9 5#3 arg (fun d s => s.writeOk ((mulGen d).setWidth 17) 0#2) s := rfl

theorem exec_syn :
    exec (.syn arg) s = runOperation 17 6#3 arg (fun w s => s.writeOk ((syndrome w).setWidth 17) 0#2) s := rfl

theorem exec_pat :
    exec (.pat arg) s = runOperation 8 7#3 arg (fun i s => s.writeOk (pat s.params.patTable i) 0#2) s := rfl

theorem exec_dec :
    exec (.dec arg) s = runOperation 17 3#3 arg
      (fun w s =>
        match decodeReceived s.params.patTable w with
        | some (d, n) => s.writeOk (d.setWidth 17) (BitVec.ofNat 2 n)
        | none => s.writeFail)
      s := rfl

theorem exec_reserved6 : exec (.reserved6 arg) s = unlessFaulted s fun s => s.raiseFault 1#3 := rfl

theorem exec_reserved7 : exec (.reserved7 arg) s = unlessFaulted s fun s => s.raiseFault 1#3 := rfl

end Sys2Proof.Machine
end

