-- ==== Sys2Proof/Laws/PerInstr.lean ====
section
/-! SUPPORT. Statements made per instruction. Family OpcodeSelects: the operation code and the operand field of an
instruction select that instruction again (R83). -/

namespace Sys2Proof.Laws.OpcodeSelects

/-- The operation code map takes an instruction's code and operand back to it. -/
def Statement (i : Instr) : Prop := Instr.ofOpcode i.opcode i.arg = i

theorem enc (arg : Nat) : Statement (.enc arg) := rfl
theorem dec (arg : Nat) : Statement (.dec arg) := rfl
theorem rot (arg : Nat) : Statement (.rot arg) := rfl
theorem mulg (arg : Nat) : Statement (.mulg arg) := rfl
theorem syn (arg : Nat) : Statement (.syn arg) := rfl
theorem pat (arg : Nat) : Statement (.pat arg) := rfl
theorem reserved6 (arg : Nat) : Statement (.reserved6 arg) := rfl
theorem reserved7 (arg : Nat) : Statement (.reserved7 arg) := rfl

end Sys2Proof.Laws.OpcodeSelects
end

