-- ==== Sys2Proof/Tests/Slice0.lean ====
section
/-! SUPPORT. Small tests of the model, their expected values taken from spec/ (mostly 95_test_vectors.md), and one witness
for the hypotheses of each statement. -/

namespace Sys2Proof.Tests

open Sys2Proof Sys2Proof.Machine

/-- The next state of an outcome, so that outcomes can be compared. -/
def nextOf : Host.Outcome State Fault Refusal → Option State
  | .next t => some t
  | _ => none

/-- A state with no fault in which the host presents these instructions, one a step, at the default parameters. -/
def running (is : List Instr) : State := { State.reset with inputs := is.map HostInput.ofInstr }

/-- A faulted state: the state after `ENC 0x200` (V-FLT). -/
def faulted : State := { State.reset with flt := 1#1, fcause := 2#3, outcome := .fault 2#3 }

/-- The five registers after one instruction from reset, as numbers `RES CNT ST FLT FCAUSE` (95_test_vectors.md). -/
def regsAfter (i : Instr) (s : State) : Option (List Nat) :=
  (nextOf (exec i s)).map fun t => [t.res.toNat, t.cnt.toNat, t.st.toNat, t.flt.toNat, t.fcause.toNat]

/-! WellFormed refuses a literal that does not fit the bus (R90). -/

theorem test_enc_illFormed : ¬ (Instr.enc 0x100000000).WellFormed 32 := by decide
theorem test_dec_illFormed : ¬ (Instr.dec 0x100000000).WellFormed 32 := by decide
theorem test_rot_illFormed : ¬ (Instr.rot 0x100000000).WellFormed 32 := by decide
theorem test_mulg_illFormed : ¬ (Instr.mulg 0x100000000).WellFormed 32 := by decide
theorem test_syn_illFormed : ¬ (Instr.syn 0x100000000).WellFormed 32 := by decide
theorem test_pat_illFormed : ¬ (Instr.pat 0x40000).WellFormed 18 := by decide
theorem test_reserved6_illFormed : ¬ (Instr.reserved6 0x100000000).WellFormed 32 := by decide
theorem test_reserved7_illFormed : ¬ (Instr.reserved7 0x100000000).WellFormed 32 := by decide
theorem test_enc_faulting_line_wellFormed : (Instr.enc 0xFFFFFFFF).WellFormed 32 := by decide

/-! Words written out bit by bit from R81 and R83 decode to the instructions they stand for. -/

theorem test_decode_enc : decodeTableWord 40 0b00000000000000000000000000001010101 = some (.enc 0x055) := by decide
theorem test_decode_dec : decodeTableWord 40 0b00100000000000000000101010100100001 = some (.dec 0x05521) := by decide
theorem test_decode_rot : decodeTableWord 40 0b01000000000000000000000000000000001 = some (.rot 1) := by decide
theorem test_decode_mulg : decodeTableWord 40 0b01100000000000000000000000111111111 = some (.mulg 0x1FF) := by decide
theorem test_decode_syn : decodeTableWord 40 0b10000000000000000010000000000000000 = some (.syn 0x10000) := by decide
theorem test_decode_pat : decodeTableWord 40 0b10100000000000000000000000010011101 = some (.pat 0x9D) := by decide
theorem test_decode_reserved6 : decodeTableWord 40 0b11000000000000000000000000000000000 = some (.reserved6 0) := by decide
theorem test_decode_reserved7 : decodeTableWord 40 0b11111111111111111111111111111111111 = some (.reserved7 0xFFFFFFFF) := by
  decide
theorem test_decode_too_long : decodeWord 32 0x800000000 = .error .wordTooLong := by decide
theorem test_decode_too_wide : decodeCommand 18 ⟨0#3, 0x40000⟩ = .error .operandTooWide := by decide
theorem test_decode_narrow_bus : decodeWord 18 0b101000000000010011101 = .ok (.pat 0x9D) := by decide

/-! One step of each instruction, from the tables V-* of 95_test_vectors.md. -/

theorem test_enc : regsAfter (.enc 0x055) .reset = some [0x05521, 0, 1, 0, 0] := by decide
theorem test_enc_wide : regsAfter (.enc 0x80000055) .reset = some [0, 0, 0, 1, 2] := by decide
theorem test_dec_two_errors : regsAfter (.dec 0x05D29) .reset = some [0x055, 2, 1, 0, 0] := by decide +kernel
theorem test_dec_fail : regsAfter (.dec 0x0000B) .reset = some [0, 0, 2, 0, 0] := by decide +kernel
theorem test_rot : regsAfter (.rot 0x05521) .reset = some [0x12A90, 0, 1, 0, 0] := by decide
theorem test_rot_wide : regsAfter (.rot 0x20000) .reset = some [0, 0, 0, 1, 4] := by decide
theorem test_mulg : regsAfter (.mulg 0x155) .reset = some [0xBD, 0, 1, 0, 0] := by decide
theorem test_mulg_wide : regsAfter (.mulg 0x200) .reset = some [0, 0, 0, 1, 5] := by decide
theorem test_syn : regsAfter (.syn 0x05D29) .reset = some [0xF9, 0, 1, 0, 0] := by decide
theorem test_syn_wide : regsAfter (.syn 0x80000000) .reset = some [0, 0, 0, 1, 6] := by decide
theorem test_pat : regsAfter (.pat 0x8E) .reset = some [0x02001, 0, 1, 0, 0] := by decide
theorem test_pat_sparse :
    regsAfter (.pat 0x8E) { State.reset with params := ⟨32, .sparse12⟩ } = some [0, 0, 1, 0, 0] := by decide
theorem test_reserved6 : regsAfter (.reserved6 0) .reset = some [0, 0, 0, 1, 1] := by decide
theorem test_reserved7 : regsAfter (.reserved7 0xFFFFFFFF) .reset = some [0, 0, 0, 1, 1] := by decide
theorem test_refused : regsAfter (.dec 0x20000) faulted = some [0, 0, 0, 1, 2] := by decide
theorem test_enc_clears_count :
    regsAfter (.enc 0x200) { State.reset with res := 0x055#17, cnt := 2#2, st := 1#2 } = some [0, 0, 0, 1, 2] := by decide

/-! Single iterations of the decoder, from traces T2, T2s and T5. -/

theorem test_decStep_pattern : decStep .full17 ⟨none, 0x04BA5#17⟩ = ⟨some 2, 0x02552#17⟩ := by decide
theorem test_decStep_sparse : decStep .sparse12 ⟨none, 0x04BA5#17⟩ = ⟨none, 0x125D2#17⟩ := by decide
theorem test_decStep_no_pattern : decStep .full17 ⟨some 0, 0x0000B#17⟩ = ⟨none, 0x10005#17⟩ := by decide
theorem test_decode_sparse : decodeReceived .sparse12 0x05D29#17 = some (0x055#9, 2) := by decide +kernel
theorem test_decode_wrong_success : decodeReceived .full17 0x00007#17 = some (0x040#9, 2) := by decide +kernel

/-! Steps: fetching, reset, refusal, an input with no command. -/

theorem test_step_fetches :
    nextOf (step (State.reset.withFetchWord 40 0x200000001)) =
      some { State.reset with res := 0x10000#17, st := 1#2, outcome := .ok } := by decide
theorem test_step_reset_wins :
    nextOf (step { faulted with inputs := [⟨true, some ⟨0#3, 0x055⟩⟩] }) = some State.reset := by decide
theorem test_step_idle : nextOf (step faulted) = some faulted := by decide
theorem test_step_refuses :
    nextOf (step { faulted with inputs := [⟨false, some ⟨7#3, 0⟩⟩] }) =
      some { faulted with outcome := .refused } := by decide
theorem test_hostRead : (running []).hostRead .ST = 0 ∧ faulted.hostRead .FCAUSE = 2 := by decide

/-! Written syntax (R90, R92): literals in the three bases, separators and a comment. -/

theorem test_assemble :
    assemble 32 "ENC 0x055 # data\n\n  ROT 0b1\nPAT 1_57".toList = .ok [0x000000055, 0x200000001, 0x50000009D] := by decide
theorem test_assemble_too_wide : assemble 32 "ENC 0x100000000".toList = .error .literalTooWide := by decide
theorem test_assemble_no_reset : assemble 32 "RESET 0".toList = .error .unknownMnemonic := by decide
theorem test_assemble_bad_literal : parseLiteral "0x".toList = none ∧ parseLiteral "0b2".toList = none := by decide

/-! Witnesses: states and operands that meet the hypotheses of each statement, at the ends of their ranges. -/

theorem witness_ResetPinRestoresResetState :
    (∃ (s : State) (h : HostInput) (rest : List HostInput), s.inputs = h :: rest ∧ h.rst = true ∧ s.flt = 1#1) ∧
    (∃ s t : State, nextOf (step s) = some t ∧ s.flt = 1#1 ∧ t.flt = 0#1) :=
  ⟨⟨{ faulted with inputs := [⟨true, some ⟨0#3, 1⟩⟩] }, ⟨true, some ⟨0#3, 1⟩⟩, [], rfl, rfl, rfl⟩,
    ⟨{ faulted with inputs := [⟨true, none⟩] }, State.reset, by decide⟩⟩

theorem witness_ResetKeepsBuildAndLaterInputs :
    ∃ (s : State) (h : HostInput) (rest : List HostInput), s.inputs = h :: rest ∧ h.rst = true :=
  ⟨{ faulted with inputs := [⟨true, none⟩] }, ⟨true, none⟩, [], rfl, rfl⟩

theorem witness_IdleStepChangesNoRegister :
    (∃ s : State, s.inputs = []) ∧
    (∃ (s : State) (h : HostInput) (rest : List HostInput), s.inputs = h :: rest ∧ h.rst = false ∧ h.cmd = none) :=
  ⟨⟨State.reset, rfl⟩, ⟨{ State.reset with inputs := [⟨false, none⟩] }, ⟨false, none⟩, [], rfl, rfl, rfl⟩⟩

theorem witness_StepRunsTheDecodedInstruction :
    ∃ (s : State) (h : HostInput) (rest : List HostInput) (c : Command) (i : Instr),
      s.inputs = h :: rest ∧ h.rst = false ∧ h.cmd = some c ∧ decodeCommand s.params.argw c = .ok i :=
  ⟨running [.enc 0xFFFFFFFF], HostInput.ofInstr (.enc 0xFFFFFFFF), [], ⟨0#3, 0xFFFFFFFF⟩, .enc 0xFFFFFFFF, by decide⟩

theorem witness_TableWordRunsAtTheNextStep :
    ∃ (s : State) (nbits w : Nat) (i : Instr), 32 ≤ s.params.argw ∧ decodeTableWord nbits w = some i :=
  ⟨State.reset, 40, 2 ^ 35 - 1, .reserved7 0xFFFFFFFF, by decide⟩

theorem witness_UnencodableOperandIsNoCommand :
    (∃ (s : State) (h : HostInput) (rest : List HostInput) (c : Command),
      s.inputs = h :: rest ∧ h.rst = false ∧ h.cmd = some c ∧ 2 ^ s.params.argw ≤ c.arg) ∧
    (∃ (argw : Nat) (c : Command), c.arg < 2 ^ argw) :=
  ⟨⟨running [.enc 0x100000000], HostInput.ofInstr (.enc 0x100000000), [], ⟨0#3, 0x100000000⟩, by decide⟩,
    ⟨32, ⟨0#3, 0xFFFFFFFF⟩, by decide⟩⟩

theorem witness_PresentedCommandFollowsPseudocode :
    (∃ word : Nat, word < 2 ^ 35) ∧
    (∃ (s : State) (i : Instr) (rest : List HostInput),
      s.inputs = HostInput.ofInstr i :: rest ∧ i.WellFormed s.params.argw ∧ s.flt = 0#1) ∧
    (∃ (s : State) (i : Instr) (rest : List HostInput),
      s.inputs = HostInput.ofInstr i :: rest ∧ i.WellFormed s.params.argw ∧ s.flt = 1#1) :=
  ⟨⟨2 ^ 35 - 1, by decide⟩, ⟨running [.pat 0xFF], .pat 0xFF, [], by decide⟩,
    ⟨{ running [.pat 0xFF] with flt := 1#1 }, .pat 0xFF, [], by decide⟩⟩

theorem witness_ContractViolationEntersTheFaultState :
    (∃ (i : Instr) (s : State), s.flt = 0#1 ∧ breaksContract i = true) ∧
    (∃ (i : Instr) (s t : State), s.flt = 0#1 ∧ breaksContract i = false ∧ nextOf (exec i s) = some t) :=
  ⟨⟨.enc 0x200, State.reset, by decide⟩,
    ⟨.enc 0x1FF, State.reset, { State.reset with res := 0x1FFFF#17, st := 1#2, outcome := .ok }, by decide⟩⟩

theorem faulted_legal : faulted.Legal := by
  constructor <;> first | decide | exact ⟨rfl, rfl⟩

theorem witness_FaultPersistsUntilReset :
    (∃ s : State, s.flt = 1#1) ∧
    (∃ (k : Nat) (s : State), s.Legal ∧ s.flt = 1#1 ∧ (∀ h ∈ s.inputs.take k, h.rst = false) ∧ 0 < k ∧
      nextOf (Host.Core.run core k s) = some s) :=
  ⟨⟨faulted, rfl⟩, ⟨2, faulted, faulted_legal, rfl, by decide, by decide, by decide⟩⟩

theorem witness_ReservedCodesFault : ∃ (s : State) (_ : Nat), s.flt = 0#1 := ⟨State.reset, 0, rfl⟩

theorem witness_OutcomeRecordsHowTheCommandEnded :
    (∃ (i : Instr) (s t : State), nextOf (exec i s) = some t ∧ s.flt = 1#1) ∧
    (∃ (i : Instr) (s t : State), nextOf (exec i s) = some t ∧ s.flt = 0#1 ∧ breaksContract i = true) ∧
    (∃ (i : Instr) (s t : State), nextOf (exec i s) = some t ∧ s.flt = 0#1 ∧ breaksContract i = false) :=
  ⟨⟨.rot 0, faulted, { faulted with outcome := .refused }, by decide⟩,
    ⟨.enc 0x200, State.reset, faulted, by decide⟩,
    ⟨.rot 0, State.reset, { State.reset with st := 1#2, outcome := .ok }, by decide⟩⟩

/-- ENC and MULG: the clauses at 511 and 512. -/
theorem witness_EncResult_MulgResult :
    ∃ (s : State) (arg wide : Nat), s.flt = 0#1 ∧ arg < 2 ^ 9 ∧ 2 ^ 9 ≤ wide ∧ wide = arg + 1 :=
  ⟨State.reset, 511, 512, by decide⟩

/-- ROT and SYN: the clauses at 2^17 - 1 and 2^17; SYN has a codeword and a single bit. -/
theorem witness_RotResult_SynResult :
    (∃ (s : State) (arg wide : Nat), s.flt = 0#1 ∧ arg < 2 ^ 17 ∧ 2 ^ 17 ≤ wide ∧ wide = arg + 1) ∧
    (∃ w, IsCodeword w) ∧ (∃ k : Nat, k < 17 ∧ k = 16) :=
  ⟨⟨State.reset, 0x1FFFF, 0x20000, by decide⟩, ⟨0x1FFFF#17, 0x1FF#9, by decide⟩, ⟨16, by decide⟩⟩

theorem witness_DecResult :
    (∃ (s : State) (arg : Nat) (d : BitVec 9) (n : Nat), s.flt = 0#1 ∧ arg < 2 ^ 17 ∧
      decodeReceived s.params.patTable (BitVec.ofNat 17 arg) = some (d, n)) ∧
    (∃ (s : State) (arg : Nat), s.flt = 0#1 ∧ arg < 2 ^ 17 ∧
      decodeReceived s.params.patTable (BitVec.ofNat 17 arg) = none) ∧
    (∃ (s : State) (arg : Nat), s.flt = 0#1 ∧ 2 ^ 17 ≤ arg) :=
  ⟨⟨State.reset, 0x1FFFF, 0x1FF#9, 0, rfl, by decide, by decide +kernel⟩,
    ⟨State.reset, 0x0000B, rfl, by decide, by decide +kernel⟩, ⟨State.reset, 0x20000, by decide⟩⟩

theorem witness_PatResult :
    (∃ (s : State) (arg wide : Nat), s.flt = 0#1 ∧ arg < 2 ^ 8 ∧ 2 ^ 8 ≤ wide ∧ wide = arg + 1 ∧
      s.params.patTable = .full17) ∧
    (∃ s : State, s.flt = 0#1 ∧ s.params.patTable = .sparse12) :=
  ⟨⟨State.reset, 0xFF, 0x100, by decide⟩, ⟨{ State.reset with params := ⟨32, .sparse12⟩ }, by decide⟩⟩

theorem witness_CommandFrame :
    (∃ (i : Instr) (s t : State), nextOf (exec i s) = some t ∧ s.flt = 1#1) ∧
    (∃ (i : Instr) (s t : State), nextOf (exec i s) = some t ∧ breaksContract i = false) :=
  ⟨⟨.rot 0, faulted, { faulted with outcome := .refused }, by decide⟩,
    ⟨.rot 0, State.reset, { State.reset with st := 1#2, outcome := .ok }, by decide⟩⟩

/-- For MatrixRowGivesResultBit, MatrixProductIsLinear, ParityByRowsAndColumns, SyndromeByRows,
ParityCheckMatrixFromGenerator and RotationByBits: the last row, column and bit. -/
theorem witness_matrix_rows :
    (∃ r R : Nat, r < R) ∧ (∃ j W : Nat, j < W) ∧ (∃ i : Nat, i < 8 ∧ i = 7) ∧
    (∃ i : Nat, i < 16 ∧ i = 15) :=
  ⟨⟨7, 8, by decide⟩, ⟨16, 17, by decide⟩, ⟨7, by decide⟩, ⟨15, by decide⟩⟩

theorem witness_SyndromeIdentities : ∃ c e : BitVec 17, IsCodeword c ∧ e ≠ 0#17 :=
  ⟨0x05521#17, 1#17, ⟨0x055#9, by decide⟩, by decide⟩

theorem witness_RotationIsASeventeenCycle :
    (∃ k : Nat, 0 < k ∧ k < 17) ∧ (∃ i : Nat, i < 17) ∧ (∃ c : BitVec 17, c ≠ 0#17 ∧ syndrome c = 0#8) :=
  ⟨⟨16, by decide⟩, ⟨16, by decide⟩, ⟨0x05521#17, by decide⟩⟩

theorem witness_CodeIsLinearCyclicWithDistanceFive :
    ∃ c c' : BitVec 17, IsCodeword c ∧ IsCodeword c' ∧ c ≠ 0#17 ∧ c ≠ c' :=
  ⟨0x05521#17, 0x1FFFF#17, ⟨0x055#9, by decide⟩, ⟨0x1FF#9, by decide⟩, by decide, by decide⟩

theorem witness_PatternTableByConstruction :
    (∃ p : BitVec 17, p.getLsbD 0 = true ∧ popcount p ≤ 2) ∧
    (∃ s : BitVec 8, pat .full17 s = 0#17) :=
  ⟨⟨0x10001#17, by decide⟩, ⟨0xFF#8, by decide⟩⟩

/-- An index that no stored pattern has as its syndrome. -/
theorem witness_unstored_index :
    ∃ s : BitVec 8, ∀ j, j < 17 → syndrome (1#17 ||| BitVec.twoPow 17 j) ≠ s :=
  ⟨0xFF#8, by decide⟩

theorem witness_StoredPatternsTrapErrors :
    ∀ t : Config.PatTable, (∃ s : BitVec 8, pat t s ≠ 0#17) ∧ ∃ w : BitVec 17, pat t (syndrome w) ≠ 0#17 := by
  intro t
  exact ⟨⟨1#8, by cases t <;> decide⟩, ⟨1#17, by cases t <;> decide⟩⟩

theorem witness_DecoderIterationBranches :
    (∃ cur : BitVec 17, syndrome cur = 0#8) ∧
    (∃ cur : BitVec 17, syndrome cur ≠ 0#8 ∧ pat .full17 (syndrome cur) = 0#17) ∧
    (∃ cur : BitVec 17, syndrome cur ≠ 0#8 ∧ pat .full17 (syndrome cur) ≠ 0#17) :=
  ⟨⟨0x05521#17, by decide⟩, ⟨0x0000B#17, by decide⟩, ⟨0x04BA5#17, by decide⟩⟩

theorem witness_DecoderRunsSeventeenIterations :
    (∃ (w : BitVec 17) (n : Nat), ((decStep .full17)^[17] ⟨some 0, w⟩).acc = some n) ∧
    (∃ w : BitVec 17, ((decStep .full17)^[17] ⟨some 0, w⟩).acc = none) :=
  ⟨⟨0x15521#17, 1, by decide +kernel⟩, ⟨0x0000B#17, by decide +kernel⟩⟩

theorem witness_AtMostOnePatternIsApplied :
    (∃ x : DecWork, pat .full17 (syndrome x.cur) ≠ 0#17) ∧
    (∃ x : DecWork, syndrome x.cur = 0#8) ∧
    (∃ (n : Nat) (w : BitVec 17), 0 < n ∧
      ∀ k, k < n → syndrome (rot17^[k] w) ≠ 0#8 ∧ pat .full17 (syndrome (rot17^[k] w)) = 0#17) :=
  ⟨⟨⟨none, 0x04BA5#17⟩, by decide⟩, ⟨⟨none, 0x05521#17⟩, by decide⟩, ⟨17, 0x0000B#17, by decide, by decide +kernel⟩⟩

/-- For DecoderCorrectsTwoErrors: an error at the end of its range. -/
theorem witness_errors_of_weight_two : ∃ e : BitVec 17, popcount e = 2 ∧ popcount e ≤ 2 :=
  ⟨0x18000#17, by decide⟩


theorem witness_StepKeepsTheStateLegal : ∃ s t : State, s.Legal ∧ s.flt = 1#1 ∧ nextOf (step s) = some t :=
  ⟨faulted, faulted, faulted_legal, rfl, by decide⟩

theorem witness_ResultDependsOnTheCommandAlone :
    ∃ s s' : State, s.Legal ∧ s'.Legal ∧ s.flt = 0#1 ∧ s'.flt = 0#1 ∧ s.params.patTable = s'.params.patTable ∧
      s ≠ s' := by
  refine ⟨{ State.reset with res := 2#17, st := 1#2, outcome := .ok },
    { State.reset with res := 1#17, st := 1#2, outcome := .ok, params := ⟨18, .full17⟩ },
    ?_, ?_, rfl, rfl, rfl, by decide⟩ <;>
    constructor <;> decide

theorem witness_DecodeFailureIsNoFault :
    ∃ (s : State) (arg : Nat), s.flt = 0#1 ∧ arg < 2 ^ 17 ∧
      decodeReceived s.params.patTable (BitVec.ofNat 17 arg) = none :=
  ⟨State.reset, 0x0000B, rfl, by decide, by decide +kernel⟩

theorem witness_EncodedDataSurvivesTwoErrors : ∃ (s : State) (e : BitVec 17), s.flt = 0#1 ∧ popcount e ≤ 2 :=
  ⟨State.reset, 0x00808#17, rfl, by decide⟩

theorem witness_RunGoesWrongExactlyOnAViolation :
    ∃ (program : List Instr) (s : State), s.Loaded program ∧ (∀ i ∈ program, i.WellFormed s.params.argw) ∧
      s.flt = 0#1 ∧ program.find? breaksContract = some (.enc 0x200) :=
  ⟨[.enc 0x1FF, .enc 0x200, .dec 0x20000], running [.enc 0x1FF, .enc 0x200, .dec 0x20000], rfl, by decide, rfl, by decide⟩

theorem witness_RunEndsWithTheLastCommandsResult :
    ∃ (program : List Instr) (last : Instr) (s : State), s.Loaded (program ++ [last]) ∧
      (∀ i ∈ program ++ [last], i.WellFormed s.params.argw) ∧ s.flt = 0#1 ∧
      (∀ i ∈ program, breaksContract i = false) ∧ program ≠ [] :=
  ⟨[.enc 0x1FF, .rot 1], .enc 0x055, running [.enc 0x1FF, .rot 1, .enc 0x055], rfl, by decide, rfl, by decide, by decide⟩

/-- Two instances, each with a command to run (P7). -/
def twoInstances : List State := [running [.enc 0x200], running [.enc 0x055]]

theorem witness_InstancesDoNotAffectEachOther :
    ∃ (j k : Nat) (ys zs : List State), j ≠ k ∧ stepInstance j twoInstances = .next ys ∧
      stepInstance k ys = .next zs :=
  ⟨0, 1, [faulted, running [.enc 0x055]], [faulted, { State.reset with res := 0x05521#17, st := 1#2, outcome := .ok }],
    by decide, rfl, rfl⟩

/-- For DecodeOfEncodeIsTheInstruction and EncodeOfDecodeIsTheWord: the longest words and the widest operand. -/
theorem witness_DecodeOfEncodeIsTheInstruction :
    (∃ (argw : Nat) (i : Instr), i.WellFormed argw) ∧ (∃ (argw word : Nat) (i : Instr), decodeWord argw word = .ok i) ∧
    (∃ argw word : Nat, word < 2 ^ (argw + 3)) ∧ (∃ argw word : Nat, 2 ^ (argw + 3) ≤ word) :=
  ⟨⟨32, .rot 0xFFFFFFFF, by decide⟩, ⟨32, 2 ^ 35 - 1, .reserved7 0xFFFFFFFF, by decide⟩, ⟨32, 2 ^ 35 - 1, by decide⟩,
    ⟨32, 2 ^ 35, by decide⟩⟩

theorem witness_BusWidthDoesNotChangeACommand : ∃ (a b : Nat) (c : Command), c.Fits a ∧ c.Fits b ∧ a ≠ b :=
  ⟨18, 32, ⟨1#3, 0x3FFFF⟩, by decide⟩

/-- For EncodedAs, which the result statements use. -/
theorem witness_EncodedAs : ∃ arg : Nat, arg < 2 ^ 32 ∧ arg = 0xFFFFFFFF := ⟨0xFFFFFFFF, by decide⟩

end Sys2Proof.Tests
end

/-! PROOFS. The statements of 10_state.md: what reset leaves (R35), and that a command's result depends on the command and
the tables alone (R20). -/

namespace Sys2Proof.Machine

/-! Two states that end alike: what each way a command can end makes of a pair of states. -/

/-- Two outcomes are both next states, and the five output registers of these agree. -/
def EndAlike (x y : Host.Outcome State Fault Refusal) : Prop :=
  ∃ t t', x = .next t ∧ y = .next t' ∧ t.SameRegisters t'

theorem State.raiseFault_sameRegisters (s s' : State) (c : Cause) :
    (s.raiseFault c).SameRegisters (s'.raiseFault c) :=
  ⟨rfl, rfl, rfl, rfl, rfl⟩

theorem State.writeOk_sameRegisters {s s' : State} (hflt : s.flt = s'.flt) (hcause : s.fcause = s'.fcause)
    (r : BitVec 17) (c : BitVec 2) : (s.writeOk r c).SameRegisters (s'.writeOk r c) :=
  ⟨rfl, rfl, rfl, hflt, hcause⟩

theorem State.writeFail_sameRegisters {s s' : State} (hflt : s.flt = s'.flt) (hcause : s.fcause = s'.fcause) :
    s.writeFail.SameRegisters s'.writeFail :=
  ⟨rfl, rfl, rfl, hflt, hcause⟩

/-- The width check looks at the operand alone, so an operation ends alike on two states without a fault as soon as what
it performs does. -/
theorem runOperation_endAlike {s s' : State} (hs : s.flt = 0#1) (hs' : s'.flt = 0#1) (W : Nat) (c : Cause) (arg : Nat)
    {perform : BitVec W → State → State} (hp : ∀ v, (perform v s).SameRegisters (perform v s')) :
    EndAlike (runOperation W c arg perform s) (runOperation W c arg perform s') := by
  rcases Nat.lt_or_ge arg (2 ^ W) with hfits | hwide
  · exact ⟨_, _, runOperation_of_fits hs hfits, runOperation_of_fits hs' hfits, hp _⟩
  · exact ⟨_, _, runOperation_of_wide hs hwide, runOperation_of_wide hs' hwide, s.raiseFault_sameRegisters s' c⟩

/-- A reserved code ends alike on any two states without a fault: it faults (R86). -/
theorem runReserved_endAlike {s s' : State} (hs : s.flt = 0#1) (hs' : s'.flt = 0#1) :
    EndAlike (runReserved s) (runReserved s') :=
  ⟨_, _, unlessFaulted_of_ready hs _, unlessFaulted_of_ready hs' _, s.raiseFault_sameRegisters s' 1#3⟩

/-- An operation that always ends in OK, with a result computed from its operand, ends alike (R104, R106, R121, R131). -/
theorem runOperation_writeOk_endAlike {s s' : State} (hs : s.flt = 0#1) (hs' : s'.flt = 0#1)
    (hcause : s.fcause = s'.fcause) (W : Nat) (c : Cause) (arg : Nat) (result : BitVec W → BitVec 17) :
    EndAlike (runOperation W c arg (fun v s => s.writeOk (result v) 0#2) s)
      (runOperation W c arg (fun v s => s.writeOk (result v) 0#2) s') :=
  runOperation_endAlike hs hs' W c arg fun v => State.writeOk_sameRegisters (hs.trans hs'.symm) hcause (result v) 0#2

/-- Every instruction ends alike on two states without a fault that agree on `FCAUSE` and on the pattern table: no
meaning reads `RES`, `CNT`, `ST`, the bus width, the inputs or the record of the outcome (R20). -/
theorem exec_endAlike (i : Instr) {s s' : State} (hs : s.flt = 0#1) (hs' : s'.flt = 0#1)
    (hcause : s.fcause = s'.fcause) (htable : s.params.patTable = s'.params.patTable) :
    EndAlike (exec i s) (exec i s') := by
  have hflt : s.flt = s'.flt := hs.trans hs'.symm
  cases i with
  | enc arg => exact runOperation_writeOk_endAlike hs hs' hcause 9 2#3 arg encodeData
  | rot arg => exact runOperation_writeOk_endAlike hs hs' hcause 17 4#3 arg rot17
  | mulg arg => exact runOperation_writeOk_endAlike hs hs' hcause 9 5#3 arg (fun d => (mulGen d).setWidth 17)
  | syn arg => exact runOperation_writeOk_endAlike hs hs' hcause 17 6#3 arg (fun w => (syndrome w).setWidth 17)
  | pat arg =>
    rw [exec_pat, exec_pat]
    refine runOperation_endAlike hs hs' 8 7#3 arg fun v => ?_
    rw [htable]
    exact State.writeOk_sameRegisters hflt hcause _ _
  | dec arg =>
    rw [exec_dec, exec_dec]
    refine runOperation_endAlike hs hs' 17 3#3 arg fun w => ?_
    rw [htable]
    cases decodeReceived s'.params.patTable w with
    | some result => exact State.writeOk_sameRegisters hflt hcause _ _
    | none => exact State.writeFail_sameRegisters hflt hcause
  | reserved6 _ => exact runReserved_endAlike hs hs'
  | reserved7 _ => exact runReserved_endAlike hs hs'

/-- A legal state without a fault holds no cause of one (R30). -/
theorem State.Legal.fcause_eq_zero {s : State} (h : s.Legal) (hs : s.flt = 0#1) : s.fcause = 0#3 :=
  h.cause_iff_fault.2 hs

/-- Settles O41: legality makes both `FCAUSE` 0, and beyond that only the pattern table is read. -/
theorem resultDependsOnTheCommandAlone : Obligations.ResultDependsOnTheCommandAlone := by
  intro i s s' hlegal hlegal' hs hs' htable
  have hcause : s.fcause = s'.fcause := (hlegal.fcause_eq_zero hs).trans (hlegal'.fcause_eq_zero hs').symm
  exact exec_endAlike i hs hs' hcause htable

/-! The contents of the tables and the reset state. -/

/-- The non-zero entries of the pattern table with their indexes, in rising order of the index. -/
def nonZeroPatterns (t : Config.PatTable) : List (Nat × Nat) :=
  (List.range 256).filterMap fun s =>
    if pat t (BitVec.ofNat 8 s) = 0#17 then none else some (s, (pat t (BitVec.ofNat 8 s)).toNat)

/-- The reading of all 256 entries of FULL17 finds the 17 patterns of R57 and no other. -/
theorem nonZeroPatterns_full17 :
    nonZeroPatterns .full17 = patEntries.map fun e => (e.1.toNat, e.2.toNat) := by
  decide

/-- Settles O1: the registers and the matrices by their definitions, the pattern table of the default build by reading
all its entries. -/
theorem resetRegistersAndTables : Obligations.ResetRegistersAndTables := by
  refine ⟨⟨rfl, rfl, rfl, rfl, rfl⟩, rfl, rfl, ?_⟩
  exact nonZeroPatterns_full17

end Sys2Proof.Machine

/-! PROOFS. The statements of 30_encoding.md: every word is a command and a presented command ends as the pseudocode says
(R85), and the reserved codes fault (R86). -/

namespace Sys2Proof

/-! Command words: the operation code above, the operand below (R81). -/

@[simp] theorem Instr.ofOpcode_arg (op : BitVec 3) (arg : Nat) : (Instr.ofOpcode op arg).arg = arg := by
  unfold Instr.ofOpcode
  split <;> rfl

@[simp] theorem Instr.ofOpcode_opcode (i : Instr) : Instr.ofOpcode i.opcode i.arg = i := by
  cases i <;> rfl

/-- A word of 3 + `ARGW` bits splits into the two ports. -/
theorem Command.ofWord_of_lt {argw word : Nat} (h : word < 2 ^ (argw + 3)) :
    Command.ofWord argw word = .ok { op := BitVec.ofNat 3 (word >>> argw), arg := word % 2 ^ argw } := by
  have htop : word >>> (argw + 3) = 0 := by
    rw [Nat.shiftRight_eq_div_pow]
    exact Nat.div_eq_of_lt h
  rw [Command.ofWord, if_pos htop]

/-- The operand that the ports take from a word always fits the bus, so decoding is total on 3 + `ARGW` bits (R85). -/
theorem decodeWord_of_lt {argw word : Nat} (h : word < 2 ^ (argw + 3)) :
    decodeWord argw word = .ok (Instr.ofOpcode (BitVec.ofNat 3 (word >>> argw)) (word % 2 ^ argw)) := by
  have hfits : word % 2 ^ argw < 2 ^ argw := Nat.mod_lt _ (Nat.two_pow_pos argw)
  rw [decodeWord, Command.ofWord_of_lt h]
  exact decodeCommand_of_fits hfits

/-- Decoding the ports of a well-formed instruction gives the instruction back. -/
theorem decodeCommand_toCommand {argw : Nat} {i : Instr} (h : i.WellFormed argw) :
    decodeCommand argw i.toCommand = .ok i := by
  rw [decodeCommand_of_fits h, Instr.toCommand_op, Instr.toCommand_arg, Instr.ofOpcode_opcode]

/-- The two fields of an encoded word do not overlap, so the word is their sum (R92). -/
theorem encode_eq_add {argw : Nat} {i : Instr} (h : i.WellFormed argw) :
    encode argw i = i.opcode.toNat * 2 ^ argw + i.arg := by
  have hor := Nat.shiftLeft_add_eq_or_of_lt h i.opcode.toNat
  rw [Nat.shiftLeft_eq] at hor
  rw [hor, ← Nat.shiftLeft_eq]
  rfl

theorem encode_lt {argw : Nat} {i : Instr} (h : i.WellFormed argw) : encode argw i < 2 ^ (argw + 3) := by
  have hop : i.opcode.toNat < 8 := i.opcode.isLt
  have harg : i.arg < 2 ^ argw := h
  rw [encode_eq_add h, Nat.pow_add]
  calc i.opcode.toNat * 2 ^ argw + i.arg
      < (i.opcode.toNat + 1) * 2 ^ argw := by rw [Nat.succ_mul]; omega
    _ ≤ 8 * 2 ^ argw := Nat.mul_le_mul_right _ hop
    _ = 2 ^ argw * 2 ^ 3 := Nat.mul_comm ..

/-- Decoding the encoding of a well-formed instruction gives the instruction back, on every bus width (R81, R92). -/
theorem decodeWord_encode {argw : Nat} {i : Instr} (h : i.WellFormed argw) :
    decodeWord argw (encode argw i) = .ok i := by
  have hop : encode argw i >>> argw = i.opcode.toNat := by
    rw [Nat.shiftRight_eq_div_pow, encode_eq_add h, Nat.mul_comm, Nat.mul_add_div (Nat.two_pow_pos argw),
      Nat.div_eq_of_lt h, Nat.add_zero]
  have harg : encode argw i % 2 ^ argw = i.arg := by
    rw [encode_eq_add h, Nat.mul_add_mod_of_lt h]
  rw [decodeWord_of_lt (encode_lt h), hop, harg, BitVec.ofNat_toNat, BitVec.setWidth_eq, Instr.ofOpcode_opcode]

namespace Machine

/-- A constructor that keeps its operand and has the operation code `op` is encoded as `op` in format C. -/
theorem encodedAs_of_opcode {op : Nat} {mk : Nat → Instr} (hop : ∀ arg, (mk arg).opcode.toNat = op)
    (harg : ∀ arg, (mk arg).arg = arg) : EncodedAs op mk := by
  intro arg hlt
  have hwf : (mk arg).WellFormed 32 := by rwa [Instr.WellFormed, harg]
  have henc : encode 32 (mk arg) = op * 2 ^ 32 + arg := by rw [encode_eq_add hwf, hop, harg]
  exact ⟨henc, henc ▸ decodeWord_encode hwf⟩

/-! How a command ends, whatever the record of the outcome says. -/

/-- The outcome of a step is the state `u`, up to the model's own record of how the command ended (log entry 4). -/
def EndsAs (x : Host.Outcome State Fault Refusal) (u : State) : Prop :=
  ∃ o, x = .next { u with outcome := o }

/-- A faulted CORE refuses every instruction: the refusal test comes before everything else (R85, R174, R176). -/
theorem exec_of_faulted {s : State} (hs : s.flt = 1#1) (i : Instr) : exec i s = .next s.refuse := by
  cases i with
  | enc _ | dec _ | rot _ | mulg _ | syn _ | pat _ =>
    simp only [exec_enc, exec_dec, exec_rot, exec_mulg, exec_syn, exec_pat, runOperation_of_faulted hs]
  | reserved6 _ | reserved7 _ => simp only [exec_reserved6, exec_reserved7, unlessFaulted_of_faulted hs]

/-- The reserved codes enter the fault state (R86). -/
theorem runReserved_of_ready {s : State} (hs : s.flt = 0#1) : runReserved s = .next (s.raiseFault 1#3) :=
  unlessFaulted_of_ready hs _

/-- The frame of an operation ends as the pseudocode's test of the operand says, once the operation itself ends as it
should on an operand that passes (R85). -/
theorem runOperation_endsAs {s u : State} (hs : s.flt = 0#1) {W : Nat} {c : Cause} {arg : Nat}
    {perform : BitVec W → State → State} (hp : ∃ o, perform (operandValue W arg) s = { u with outcome := o }) :
    EndsAs (runOperation W c arg perform s)
      (if arg < 2 ^ W then u else { s with flt := 1#1, fcause := c, res := 0#17, cnt := 0#2, st := 0b00#2 }) := by
  rcases Nat.lt_or_ge arg (2 ^ W) with hfits | hwide
  · obtain ⟨o, ho⟩ := hp
    rw [if_pos hfits]
    exact ⟨o, by rw [runOperation_of_fits hs hfits, ho]⟩
  · rw [if_neg (Nat.not_lt.2 hwide)]
    exact ⟨.fault c, runOperation_of_wide hs hwide⟩

/-- An operation whose own end is always OK follows the pseudocode (R104, R106, R121, R131, R142). -/
theorem runOperation_writeOk_endsAs {s : State} (hs : s.flt = 0#1) (W : Nat) (c : Cause) (arg : Nat)
    (result : BitVec W → State → BitVec 17) :
    EndsAs (runOperation W c arg (fun v s => s.writeOk (result v s) 0#2) s)
      (if arg < 2 ^ W then { s with res := result (BitVec.ofNat W arg) s, cnt := 0#2, st := 0b01#2 }
      else { s with flt := 1#1, fcause := c, res := 0#17, cnt := 0#2, st := 0b00#2 }) :=
  runOperation_endsAs hs ⟨.ok, rfl⟩

theorem commandEnd_of_faulted {s : State} (hs : s.flt = 1#1) (i : Instr) : commandEnd i s = s :=
  if_pos hs

/-- Every instruction ends as the pseudocode of R85 says. -/
theorem exec_endsAs_commandEnd (i : Instr) (s : State) : EndsAs (exec i s) (commandEnd i s) := by
  by_cases hf : s.flt = 1#1
  · rw [commandEnd_of_faulted hf]
    exact ⟨.refused, exec_of_faulted hf i⟩
  · have hs : s.flt = 0#1 := flt_eq_zero_of_ne_one hf
    simp only [commandEnd, if_neg hf]
    cases i with
    | enc arg => exact runOperation_writeOk_endsAs hs 9 2#3 arg fun d _ => encodeData d
    | rot arg => exact runOperation_writeOk_endsAs hs 17 4#3 arg fun w _ => rot17 w
    | mulg arg => exact runOperation_writeOk_endsAs hs 9 5#3 arg fun d _ => (mulGen d).setWidth 17
    | syn arg => exact runOperation_writeOk_endsAs hs 17 6#3 arg fun w _ => (syndrome w).setWidth 17
    | pat arg => exact runOperation_writeOk_endsAs hs 8 7#3 arg fun i s => pat s.params.patTable i
    | dec arg =>
      rw [exec_dec]
      refine runOperation_endsAs hs ?_
      rw [operandValue]
      cases decodeReceived s.params.patTable (BitVec.ofNat 17 arg) with
      | some _ => exact ⟨.ok, rfl⟩
      | none => exact ⟨.fail, rfl⟩
    | reserved6 _ => exact ⟨.fault 1#3, runReserved_of_ready hs⟩
    | reserved7 _ => exact ⟨.fault 1#3, runReserved_of_ready hs⟩

/-- A well-formed instruction that the host presents is the one that the step executes (R85). -/
theorem step_of_presented {s : State} {i : Instr} {rest : List HostInput}
    (hin : s.inputs = HostInput.ofInstr i :: rest) (hwf : i.WellFormed s.params.argw) :
    step s = exec i { s with inputs := rest } := by
  simp [step, State.takeInput_cons hin, HostInput.ofInstr, decodeCommand_toCommand hwf]

/-- Settles O9: a word below 2^35 has the ports of some instruction, and a presented instruction is executed and ends as
the pseudocode says. -/
theorem presentedCommandFollowsPseudocode : Obligations.PresentedCommandFollowsPseudocode := by
  refine ⟨fun word hword => ⟨_, ?_, decodeWord_of_lt hword⟩, fun s i rest hin hwf => ?_⟩
  · rw [Instr.WellFormed, Instr.ofOpcode_arg]
    exact Nat.mod_lt _ (Nat.two_pow_pos 32)
  · rw [step_of_presented hin hwf]
    exact exec_endsAs_commandEnd i _

/-- Settles O12: a reserved code raises fault 1 without a look at its operand, and its words are those of format C. -/
theorem reservedCodesFault : Obligations.ReservedCodesFault := by
  refine ⟨fun s arg hs => ?_, fun s arg hs => ?_, ?_, ?_⟩
  · exact ⟨.fault 1#3, runReserved_of_ready hs⟩
  · exact ⟨.fault 1#3, runReserved_of_ready hs⟩
  · exact encodedAs_of_opcode (fun _ => rfl) fun _ => rfl
  · exact encodedAs_of_opcode (fun _ => rfl) fun _ => rfl

end Machine

end Sys2Proof

/-! PROOFS. The statements of 40_gf2_multiplier.md: the product of a matrix and a vector over GF(2) bit by bit (R100),
its two uses by rows and by columns (R103, R105), and the operations MULG and SYN (R104, R106). -/

namespace Sys2Proof.Machine

/-! Parity (R10): the set bits of a word counted modulo 2. -/

/-- A sum is odd exactly when one of the two numbers is odd and the other is not. -/
theorem add_mod_two_beq_one (a b : Nat) : ((a + b) % 2 == 1) = ((a % 2 == 1) ^^ (b % 2 == 1)) := by
  rcases Nat.mod_two_eq_zero_or_one a with ha | ha <;>
    rcases Nat.mod_two_eq_zero_or_one b with hb | hb <;>
      simp [Nat.add_mod, ha, hb]

/-- The set bits of a concatenation are those of its two parts. -/
theorem popcount_append {w v : Nat} (x : BitVec w) (y : BitVec v) : popcount (x ++ y) = popcount x + popcount y := by
  have hlow : (List.range v).countP (fun i => (x ++ y).getLsbD i) = popcount y :=
    List.countP_congr fun i hi => by simp [BitVec.getLsbD_append, List.mem_range.1 hi]
  have hhigh : ((List.range w).map (v + ·)).countP (fun i => (x ++ y).getLsbD i) = popcount x := by
    rw [List.countP_map]
    exact List.countP_congr fun i _ => by simp [BitVec.getLsbD_append]
  have hrange : List.range (w + v) = List.range v ++ (List.range w).map (v + ·) := by
    rw [Nat.add_comm, List.range_add]
  rw [popcount, hrange, List.countP_append, hlow, hhigh, Nat.add_comm]

theorem parity_append {w v : Nat} (x : BitVec w) (y : BitVec v) : parity (x ++ y) = (parity x ^^ parity y) := by
  simp only [parity, popcount_append, add_mod_two_beq_one]

theorem popcount_twoPow {w i : Nat} (h : i < w) : popcount (BitVec.twoPow w i) = 1 := by
  have hbit : popcount (BitVec.twoPow w i) = (List.range w).count i :=
    List.countP_congr fun j _ => by simp [BitVec.getLsbD_twoPow, h, @eq_comm _ j]
  rw [hbit, List.count_range, if_pos h]

theorem popcount_zero (w : Nat) : popcount 0#w = 0 := by
  simp [popcount]

/-- A mask of one bit selects that bit. -/
theorem parity_twoPow_and {w i : Nat} (h : i < w) (v : BitVec w) : parity (BitVec.twoPow w i &&& v) = v.getLsbD i := by
  rw [BitVec.twoPow_and]
  cases v.getLsbD i with
  | true => simp [parity, popcount_twoPow h]
  | false => simp [parity, popcount_zero]

/-! The product by rows (R100). -/

/-- One row of the product: the bits already found move one place up and the row's parity comes in below them. -/
def shiftInRow {R W : Nat} (v : BitVec W) (out : BitVec R) (row : BitVec W) : BitVec R :=
  (out <<< 1) ||| (BitVec.ofBool (parity (row &&& v))).setWidth R

theorem gf2Mul_eq_foldl_shiftInRow {R W : Nat} (M : Vector (BitVec W) R) (v : BitVec W) :
    gf2Mul M v = M.toList.foldl (shiftInRow v) 0#R := rfl

theorem shiftInRow_getLsbD_zero {R W : Nat} (h : 0 < R) (v : BitVec W) (out : BitVec R) (row : BitVec W) :
    (shiftInRow v out row).getLsbD 0 = parity (row &&& v) := by
  simp [shiftInRow, h]

theorem shiftInRow_getLsbD_succ {R W i : Nat} (h : i + 1 < R) (v : BitVec W) (out : BitVec R) (row : BitVec W) :
    (shiftInRow v out row).getLsbD (i + 1) = out.getLsbD i := by
  simp [shiftInRow, BitVec.getLsbD_shiftLeft, h, -BitVec.getLsbD_eq_getElem]

/-- After any list of rows, bit `i` is the parity of the row `i` places before the last. -/
theorem foldl_shiftInRow_getLsbD {R W : Nat} (v : BitVec W) (rows : List (BitVec W)) {i : Nat} (hR : i < R)
    {row : BitVec W} (hrow : rows.reverse[i]? = some row) :
    (rows.foldl (shiftInRow v) 0#R).getLsbD i = parity (row &&& v) := by
  induction rows using List.reverseRec generalizing i with
  | nil => simp at hrow
  | append_singleton rows last ih =>
    rw [List.foldl_append, List.foldl_cons, List.foldl_nil]
    rw [List.reverse_concat] at hrow
    cases i with
    | zero =>
      obtain rfl : last = row := by simpa using hrow
      exact shiftInRow_getLsbD_zero hR v _ last
    | succ i =>
      rw [shiftInRow_getLsbD_succ hR]
      exact ih (Nat.lt_of_succ_lt hR) (by simpa using hrow)

/-- Bit `i` of a product is the parity of the row that stands `i` places before the last (R100). -/
theorem gf2Mul_getLsbD {R W : Nat} (M : Vector (BitVec W) R) (v : BitVec W) {i : Nat} (h : i < R) :
    (gf2Mul M v).getLsbD i = parity (M[R - 1 - i] &&& v) := by
  rw [gf2Mul_eq_foldl_shiftInRow]
  refine foldl_shiftInRow_getLsbD v M.toList h ?_
  rw [List.getElem?_reverse (by simpa using h)]
  simp

/-- Settles O22: the row `r` stands `R - 1 - r` places before the last, and the two products of CORE are so by
definition. -/
theorem matrixRowGivesResultBit : Obligations.MatrixRowGivesResultBit := by
  refine ⟨fun R W M v r h => ?_, fun _ => rfl, fun _ => rfl⟩
  have hback : R - 1 - (R - 1 - r) = r := by omega
  rw [gf2Mul_getLsbD M v (by omega)]
  simp only [hback]

theorem mulGen_getLsbD (d : BitVec 9) {i : Nat} (h : i < 8) : (mulGen d).getLsbD i = parity (GEN[7 - i] &&& d) :=
  gf2Mul_getLsbD GEN d h

theorem syndrome_getLsbD (w : BitVec 17) {i : Nat} (h : i < 8) : (syndrome w).getLsbD i = parity (PAR[7 - i] &&& w) :=
  gf2Mul_getLsbD PAR w h

/-- Settles O25: the rows of the product with `PAR`. -/
theorem syndromeByRows : Obligations.SyndromeByRows :=
  fun w _ h => syndrome_getLsbD w h

/-! The product by columns (R56, R103). -/

/-- A bit of an exclusive or over a list is set exactly when an odd number of its terms have that bit. -/
theorem foldl_xor_getLsbD {n : Nat} (f : Nat → BitVec n) (js : List Nat) (x : BitVec n) (i : Nat) :
    (js.foldl (fun x j => x ^^^ f j) x).getLsbD i =
      (x.getLsbD i ^^ (js.countP (fun j => (f j).getLsbD i) % 2 == 1)) := by
  induction js generalizing x with
  | nil => simp
  | cons j js ih =>
    have hterm : ((if (f j).getLsbD i = true then 1 else 0) % 2 == 1) = (f j).getLsbD i := by
      cases (f j).getLsbD i <;> rfl
    rw [List.foldl_cons, ih, BitVec.getLsbD_xor, List.countP_cons, Nat.add_comm, add_mod_two_beq_one, hterm,
      Bool.xor_assoc]

theorem xorColumns_getLsbD {w : Nat} (cols : List (BitVec 8)) (v : BitVec w) (i : Nat) :
    (xorColumns cols v).getLsbD i =
      ((List.range w).countP (fun j => (cols.getD j 0#8).getLsbD i && v.getLsbD j) % 2 == 1) := by
  rw [xorColumns, foldl_xor_getLsbD, List.countP_filter, BitVec.getLsbD_zero, Bool.false_xor]

/-- A product is the exclusive or of the columns at the vector's set bits, once the columns hold the bits of the rows. -/
theorem gf2Mul_eq_xorColumns {W : Nat} {M : Vector (BitVec W) 8} {cols : List (BitVec 8)}
    (hcols : ∀ (i : Nat) (_ : i < 8), ∀ j < W, M[7 - i].getLsbD j = (cols.getD j 0#8).getLsbD i) (v : BitVec W) :
    gf2Mul M v = xorColumns cols v := by
  refine BitVec.eq_of_getLsbD_eq fun i hi => ?_
  rw [gf2Mul_getLsbD M v hi, xorColumns_getLsbD, parity, popcount]
  congr 2
  refine List.countP_congr fun j hj => ?_
  rw [BitVec.getLsbD_and, hcols i hi j (List.mem_range.1 hj)]

theorem mulGen_eq_xorColumns (d : BitVec 9) : mulGen d = xorColumns genColumns d :=
  gf2Mul_eq_xorColumns (by decide) d

/-- Settles O24: by the rows of `GEN`, and by its columns, which hold the same bits. -/
theorem parityByRowsAndColumns : Obligations.ParityByRowsAndColumns :=
  fun d => ⟨fun _ h => mulGen_getLsbD d h, mulGen_eq_xorColumns d⟩

/-! The syndrome of a codeword is 0: `PAR` is `GEN` with the identity beside it (R55, R107). -/

/-- The row of `PAR` for result bit `i` is the row of `GEN` above a mask of bit `i`. -/
theorem par_row_eq_append (i : Nat) (h : i < 8) : PAR[7 - i] = GEN[7 - i] ++ BitVec.twoPow 8 i := by
  revert i
  decide

/-- The syndrome compares the parity of the data with the parity byte that stands beside it (R107). -/
theorem syndrome_append (d : BitVec 9) (p : BitVec 8) : syndrome (d ++ p) = mulGen d ^^^ p := by
  refine BitVec.eq_of_getLsbD_eq fun i hi => ?_
  rw [syndrome_getLsbD _ hi, par_row_eq_append i hi, BitVec.and_append, parity_append, parity_twoPow_and hi,
    BitVec.getLsbD_xor, mulGen_getLsbD d hi]

@[simp] theorem syndrome_encodeData (d : BitVec 9) : syndrome (encodeData d) = 0#8 := by
  rw [encodeData, syndrome_append, BitVec.xor_self]

theorem IsCodeword.syndrome_eq_zero {w : BitVec 17} (h : IsCodeword w) : syndrome w = 0#8 := by
  obtain ⟨d, rfl⟩ := h
  exact syndrome_encodeData d

/-! MULG and SYN as instructions (R104, R106). -/

section
variable {s : State} (hs : s.flt = 0#1)
include hs

/-- An operation that ends in OK with a result computed from its operand, on an operand that passes the width check. -/
theorem endsOk_of_fits {i : Instr} {W : Nat} {c : Cause} {arg : Nat} {result : BitVec W → State → BitVec 17}
    (hi : exec i s = runOperation W c arg (fun v s => s.writeOk (result v s) 0#2) s) (harg : arg < 2 ^ W)
    {r : BitVec 17} (hr : result (BitVec.ofNat W arg) s = r) : EndsOk i s r 0#2 := by
  subst hr
  exact ⟨.ok, hi.trans (runOperation_of_fits hs harg)⟩

/-- An operation on an operand that fails the width check faults with the operation's cause (R82, R172). -/
theorem endsFaulted_of_wide {i : Instr} {W : Nat} {c : Cause} {arg : Nat} {perform : BitVec W → State → State}
    (hi : exec i s = runOperation W c arg perform s) (harg : 2 ^ W ≤ arg) : EndsFaulted i s c :=
  ⟨.fault c, hi.trans (runOperation_of_wide hs harg)⟩

theorem exec_mulg_endsOk {arg : Nat} (harg : arg < 2 ^ 9) {r : BitVec 17}
    (hr : (mulGen (BitVec.ofNat 9 arg)).setWidth 17 = r) : EndsOk (.mulg arg) s r 0#2 :=
  endsOk_of_fits hs (exec_mulg arg s) harg hr

theorem exec_syn_endsOk {arg : Nat} (harg : arg < 2 ^ 17) {r : BitVec 17}
    (hr : (syndrome (BitVec.ofNat 17 arg)).setWidth 17 = r) : EndsOk (.syn arg) s r 0#2 :=
  endsOk_of_fits hs (exec_syn arg s) harg hr

theorem exec_syn_codeword_endsOk {w : BitVec 17} (hw : IsCodeword w) : EndsOk (.syn w.toNat) s 0#17 0#2 :=
  exec_syn_endsOk hs w.isLt (by simp [hw.syndrome_eq_zero])

end

/-- A zero-extended parity byte has no bit above bit 7. -/
theorem setWidth_byte_toNat_lt (p : BitVec 8) : (p.setWidth 17).toNat < 2 ^ 8 := by
  rw [BitVec.toNat_setWidth_of_le (by decide)]
  exact p.isLt

/-- Settles O17: the frame of an operation with the width 9 and the cause 5; the corner cases by the products themselves. -/
theorem mulgResult : Obligations.MulgResult := by
  refine ⟨encodedAs_of_opcode (fun _ => rfl) fun _ => rfl, fun s arg hs harg => ?_,
    fun s arg hs harg => endsFaulted_of_wide hs (exec_mulg arg s) harg, fun s hs => ⟨?_, ?_, ?_⟩⟩
  · exact ⟨exec_mulg_endsOk hs harg rfl, setWidth_byte_toNat_lt _⟩
  · exact exec_mulg_endsOk hs (by decide) (by decide)
  · exact exec_mulg_endsOk hs (by decide) (by decide)
  · exact exec_mulg_endsOk hs (by decide) (by decide)

/-- The columns of `PAR` are the syndromes of the words with one set bit (R56). -/
theorem syndrome_single_bit : ∀ k < 17, syndrome (BitVec.ofNat 17 (2 ^ k)) = parColumns.getD k 0#8 := by
  decide

/-- Settles O18: the frame of an operation with the width 17 and the cause 6; the codewords by the identity half of `PAR`,
the single bits by its columns. -/
theorem synResult : Obligations.SynResult := by
  refine ⟨encodedAs_of_opcode (fun _ => rfl) fun _ => rfl, fun s arg hs harg => exec_syn_endsOk hs harg rfl,
    fun s arg hs harg => endsFaulted_of_wide hs (exec_syn arg s) harg,
    fun s hs => ⟨fun w hw => exec_syn_codeword_endsOk hs hw, fun k hk => ?_, ?_, ?_, ?_, ?_⟩⟩
  · exact exec_syn_endsOk hs (Nat.pow_lt_pow_right (by decide) hk) (by rw [syndrome_single_bit k hk])
  · exact exec_syn_codeword_endsOk hs (w := 0x00000#17) ⟨0x000#9, by decide⟩
  · exact exec_syn_codeword_endsOk hs (w := 0x1FFFF#17) ⟨0x1FF#9, by decide⟩
  · exact exec_syn_codeword_endsOk hs (w := 0x05521#17) ⟨0x055#9, by decide⟩
  · exact exec_syn_endsOk hs (by decide) (by decide)

end Sys2Proof.Machine

/-! PROOFS. The statements of 41_rotator.md: the rotation by one place bit by bit and as an integer expression (R120), and
the operation ROT (R121). -/

namespace Sys2Proof.Machine

/-! The rotated word (R120). -/

/-- The rotated word is bit 0 above the bits from 1 on, so its bits below 16 are those of the lower part. -/
theorem rot17_getLsbD (w : BitVec 17) (i : Nat) :
    (rot17 w).getLsbD i = if i < 16 then (w.extractLsb' 1 16).getLsbD i else (w.extractLsb' 0 1).getLsbD (i - 16) :=
  BitVec.getLsbD_append

/-- The bit that falls off the low end comes back at bit 16. -/
theorem rot17_getLsbD_sixteen (w : BitVec 17) : (rot17 w).getLsbD 16 = w.getLsbD 0 := by
  rw [rot17_getLsbD, if_neg (by decide), BitVec.getLsbD_extractLsb']
  rfl

/-- Every other bit moves one place toward the low end. -/
theorem rot17_getLsbD_of_lt (w : BitVec 17) {i : Nat} (h : i < 16) : (rot17 w).getLsbD i = w.getLsbD (i + 1) := by
  rw [rot17_getLsbD, if_pos h, BitVec.getLsbD_extractLsb', decide_eq_true h, Bool.true_and, Nat.add_comm]

/-- The integer expression of R120: the right shift fills the bits below 16, the left shift fills bit 16. -/
theorem rot17_eq_shift_or_shift (w : BitVec 17) : rot17 w = (w >>> 1) ||| ((w &&& 1#17) <<< 16) := by
  refine BitVec.eq_of_getLsbD_eq fun i hi => ?_
  rcases Nat.lt_succ_iff_lt_or_eq.1 hi with hlow | rfl
  · rw [rot17_getLsbD_of_lt w hlow]
    simp [hlow, Nat.add_comm]
  · rw [rot17_getLsbD_sixteen]
    simp

/-- Settles O28: the two cases of a bit's place in the concatenation, and the shifts that put the same bits there. -/
theorem rotationByBits : Obligations.RotationByBits :=
  fun w => ⟨rot17_getLsbD_sixteen w, fun _ h => rot17_getLsbD_of_lt w h, rot17_eq_shift_or_shift w⟩

/-! ROT as an instruction (R121). -/

theorem exec_rot_endsOk {s : State} (hs : s.flt = 0#1) {arg : Nat} (harg : arg < 2 ^ 17) {r : BitVec 17}
    (hr : rot17 (BitVec.ofNat 17 arg) = r) : EndsOk (.rot arg) s r 0#2 :=
  endsOk_of_fits hs (exec_rot arg s) harg hr

/-- Settles O16: the frame of an operation with the width 17 and the cause 4, its result in the shifts of R120; the corner
cases by the rotation itself. -/
theorem rotResult : Obligations.RotResult := by
  refine ⟨encodedAs_of_opcode (fun _ => rfl) fun _ => rfl,
    fun s arg hs harg => exec_rot_endsOk hs harg (rot17_eq_shift_or_shift _),
    fun s arg hs harg => endsFaulted_of_wide hs (exec_rot arg s) harg, fun s hs => ?_⟩
  refine ⟨?_, ?_, ?_, ?_, ?_⟩ <;> exact exec_rot_endsOk hs (by decide) (by decide)

end Sys2Proof.Machine

/-! PROOFS. The statements of 42_encoder.md: the codeword as the data word above the parity byte (R130), and the operation
ENC (R131). -/

namespace Sys2Proof.Machine

/-! The codeword (R130). -/

@[simp] theorem encodeData_extract_data (d : BitVec 9) : (encodeData d).extractLsb' 8 9 = d :=
  BitVec.extractLsb'_append_eq_left

@[simp] theorem encodeData_extract_parity (d : BitVec 9) : (encodeData d).extractLsb' 0 8 = mulGen d :=
  BitVec.extractLsb'_append_eq_right

/-- The integer expression of R130: a concatenation shifts its upper part past its lower one. -/
theorem encodeData_eq_shift_or (d : BitVec 9) : encodeData d = (d.setWidth 17 <<< 8) ||| (mulGen d).setWidth 17 := by
  rw [encodeData, BitVec.append_def, BitVec.shiftLeftZeroExtend_eq, BitVec.setWidth'_eq]

/-- Settles O30: the two parts of the concatenation, and the concatenation as a shift. -/
theorem codewordIsDataThenParity : Obligations.CodewordIsDataThenParity :=
  fun d => ⟨encodeData_extract_data d, encodeData_extract_parity d, encodeData_eq_shift_or d⟩

/-! ENC as an instruction (R131). -/

section
variable {s : State} (hs : s.flt = 0#1) {arg : Nat}
include hs

theorem exec_enc_endsOk (harg : arg < 2 ^ 9) {r : BitVec 17} (hr : encodeData (BitVec.ofNat 9 arg) = r) :
    EndsOk (.enc arg) s r 0#2 :=
  endsOk_of_fits hs (exec_enc arg s) harg hr

theorem exec_enc_endsFaulted (harg : 2 ^ 9 ≤ arg) : EndsFaulted (.enc arg) s 2#3 :=
  endsFaulted_of_wide hs (exec_enc arg s) harg

end

/-- Settles O14: the frame of an operation with the width 9 and the cause 2; the corner cases by the encoder itself, and
`ENC 0x200` as the smallest operand that is too wide. -/
theorem encResult : Obligations.EncResult := by
  refine ⟨encodedAs_of_opcode (fun _ => rfl) fun _ => rfl, fun s arg hs harg => exec_enc_endsOk hs harg rfl,
    fun s arg hs harg => exec_enc_endsFaulted hs harg, fun s hs => ⟨?_, ?_, ?_, ?_⟩⟩
  · exact exec_enc_endsOk hs (by decide) (by decide)
  · exact exec_enc_endsOk hs (by decide) (by decide)
  · exact exec_enc_endsOk hs (by decide) (by decide)
  · exact exec_enc_endsFaulted hs (by decide)

end Sys2Proof.Machine

/-! PROOFS. The statements of 43_decoder.md: the operation PAT under both pattern tables (R142), the three branches of one
decoder iteration (R143), and the loop of seventeen iterations (R145). -/

namespace Sys2Proof.Machine

/-! The pattern table at one index, under either table (R57, R58). -/

/-- The two tables differ at the five indexes of R58 alone. -/
theorem pat_eq_full17_of_not_mem (t : Config.PatTable) {i : BitVec 8} (hi : i ∉ sparseZeros) :
    pat t i = pat .full17 i := by
  cases t with
  | full17 => rfl
  | sparse12 => exact if_neg hi

theorem pat_sparse12_of_mem {i : BitVec 8} (hi : i ∈ sparseZeros) : pat .sparse12 i = 0#17 :=
  if_pos hi

/-! PAT as an instruction (R142). -/

section
variable {s : State} (hs : s.flt = 0#1) {arg : Nat} (harg : arg < 2 ^ 8)
include hs harg

theorem exec_pat_endsOk {r : BitVec 17} (hr : pat s.params.patTable (BitVec.ofNat 8 arg) = r) :
    EndsOk (.pat arg) s r 0#2 :=
  endsOk_of_fits hs (exec_pat arg s) harg hr

/-- At an index where the tables agree, FULL17 gives the result of every build. -/
theorem exec_pat_endsOk_of_not_mem (hi : BitVec.ofNat 8 arg ∉ sparseZeros) {r : BitVec 17}
    (hr : pat .full17 (BitVec.ofNat 8 arg) = r) : EndsOk (.pat arg) s r 0#2 :=
  exec_pat_endsOk hs harg ((pat_eq_full17_of_not_mem _ hi).trans hr)

theorem exec_pat_full17_endsOk (ht : s.params.patTable = .full17) {r : BitVec 17}
    (hr : pat .full17 (BitVec.ofNat 8 arg) = r) : EndsOk (.pat arg) s r 0#2 :=
  exec_pat_endsOk hs harg (ht ▸ hr)

theorem exec_pat_sparse12_endsOk (ht : s.params.patTable = .sparse12) (hi : BitVec.ofNat 8 arg ∈ sparseZeros) :
    EndsOk (.pat arg) s 0#17 0#2 :=
  exec_pat_endsOk hs harg (ht ▸ pat_sparse12_of_mem hi)

end

/-- Settles O19: the frame of an operation with the width 8 and the cause 7; the corner cases lie where the tables agree,
and the five indexes where they differ are read from the table that the build names. -/
theorem patResult : Obligations.PatResult := by
  refine ⟨encodedAs_of_opcode (fun _ => rfl) fun _ => rfl, fun s arg hs harg => exec_pat_endsOk hs harg rfl,
    fun s arg hs harg => endsFaulted_of_wide hs (exec_pat arg s) harg, fun s hs => ?_, fun s hs ht => ?_,
    fun s hs ht => ?_⟩
  · refine ⟨?_, ?_, ?_, ?_⟩ <;> exact exec_pat_endsOk_of_not_mem hs (by decide) (by decide) (by decide)
  · refine ⟨?_, ?_, ?_, ?_, ?_⟩ <;> exact exec_pat_full17_endsOk hs (by decide) ht (by decide)
  · refine ⟨?_, ?_, ?_, ?_, ?_⟩ <;> exact exec_pat_sparse12_endsOk hs (by decide) ht (by decide)

/-! One decoder iteration (R143). -/

section
variable (t : Config.PatTable) (x : DecWork)

/-- Step 2b: the working word is a codeword already. -/
theorem decStep_of_syndrome_zero (hsyn : syndrome x.cur = 0#8) : decStep t x = ⟨x.acc, rot17 x.cur⟩ :=
  if_pos hsyn

/-- Step 2c with no stored pattern: the decode attempt fails at this position. -/
theorem decStep_of_no_pattern (hsyn : syndrome x.cur ≠ 0#8) (hpat : pat t (syndrome x.cur) = 0#17) :
    decStep t x = ⟨none, rot17 x.cur⟩ :=
  (if_neg hsyn).trans (if_pos hpat)

/-- Step 2c with a stored pattern: its weight overwrites the accumulator. -/
theorem decStep_of_pattern (hsyn : syndrome x.cur ≠ 0#8) (hpat : pat t (syndrome x.cur) ≠ 0#17) :
    decStep t x = ⟨some (popcount (pat t (syndrome x.cur))), rot17 (x.cur ^^^ pat t (syndrome x.cur))⟩ :=
  (if_neg hsyn).trans (if_neg hpat)

end

/-- Settles O34: the two tests of an iteration, one after the other. -/
theorem decoderIterationBranches : Obligations.DecoderIterationBranches :=
  fun t acc cur =>
    ⟨decStep_of_syndrome_zero t ⟨acc, cur⟩, decStep_of_no_pattern t ⟨acc, cur⟩, decStep_of_pattern t ⟨acc, cur⟩⟩

/-! The loop and its result (R145). -/

/-- The loop of the model is the iterate of one iteration, whatever the number of rounds. -/
theorem decLoop_eq_iterate (t : Config.PatTable) (n : Nat) (x : DecWork) : decLoop t n x = (decStep t)^[n] x := by
  induction n generalizing x with
  | zero => rfl
  | succ n ih => exact ih (decStep t x)

section
variable {t : Config.PatTable} {w : BitVec 17}

theorem decodeReceived_of_acc_some {n : Nat} (h : (decLoop t 17 (decStart w)).acc = some n) :
    decodeReceived t w = some ((decLoop t 17 (decStart w)).cur.extractLsb' 8 9, n) := by
  simp only [decodeReceived, h]

theorem decodeReceived_of_acc_none (h : (decLoop t 17 (decStart w)).acc = none) : decodeReceived t w = none := by
  simp only [decodeReceived, h]

end

/-- Settles O35: the loop is the seventeenth iterate of an iteration, and step 4 reads its accumulator. -/
theorem decoderRunsSeventeenIterations : Obligations.DecoderRunsSeventeenIterations := by
  intro t w
  have hloop : (decStep t)^[17] ⟨some 0, w⟩ = decLoop t 17 (decStart w) := (decLoop_eq_iterate t 17 _).symm
  rw [hloop]
  exact ⟨fun _ => decodeReceived_of_acc_some, decodeReceived_of_acc_none⟩

end Sys2Proof.Machine

/-! PROOFS. The statements of 60_exceptions.md: a command faults exactly when it breaks its contract (R171, R172), and
the fault state persists until reset (R176). -/

namespace Sys2Proof.Machine

/-! The end of a command by its contract: the pseudocode's width check is the condition of the table of causes. -/

section
variable {i : Instr} {s : State} (hs : s.flt = 0#1)
include hs

/-- A command that breaks its contract makes the five writes of fault entry with the cause of its row (R171, R172). -/
theorem commandEnd_of_breaksContract (hi : breaksContract i = true) :
    commandEnd i s =
      { s with flt := 1#1, fcause := faultCause i, res := 0#17, cnt := 0#2, st := 0b00#2 } := by
  cases i with
  | enc arg | dec arg | rot arg | mulg arg | syn arg | pat arg =>
    have hwide := Nat.not_lt.2 (of_decide_eq_true hi)
    simp only [commandEnd, hs, if_neg hwide, faultCause]
    rfl
  | reserved6 _ | reserved7 _ => simp [commandEnd, hs, faultCause]

/-- A command that keeps its contract touches neither `FLT` nor `FCAUSE`, a decode failure included (R170). -/
theorem commandEnd_of_keepsContract (hi : breaksContract i = false) :
    (commandEnd i s).flt = s.flt ∧ (commandEnd i s).fcause = s.fcause := by
  have hready : s.flt ≠ 1#1 := by simp [hs]
  cases i with
  | enc arg | rot arg | mulg arg | syn arg | pat arg =>
    have hfits := Nat.not_le.1 (of_decide_eq_false hi)
    simp only [commandEnd, if_neg hready, if_pos hfits, and_self]
  | dec arg =>
    have hfits := Nat.not_le.1 (of_decide_eq_false hi)
    simp only [commandEnd, if_neg hready, if_pos hfits]
    cases decodeReceived s.params.patTable (BitVec.ofNat 17 arg) with
    | some _ => exact ⟨rfl, rfl⟩
    | none => exact ⟨rfl, rfl⟩
  | reserved6 _ | reserved7 _ => cases hi

end

/-- Settles O10: an instruction ends as the pseudocode says, and the pseudocode faults exactly on a broken contract. -/
theorem contractViolationEntersTheFaultState : Obligations.ContractViolationEntersTheFaultState := by
  refine ⟨fun i s hs hbreaks => ?_, fun i s t hs hkeeps hexec => ?_⟩
  · have hend : EndsAs (exec i s) (commandEnd i s) := exec_endsAs_commandEnd i s
    rwa [commandEnd_of_breaksContract hs hbreaks] at hend
  · obtain ⟨o, hend⟩ := exec_endsAs_commandEnd i s
    obtain rfl := Host.Outcome.next.inj (hexec.symm.trans hend)
    obtain ⟨hflt, hcause⟩ := commandEnd_of_keepsContract hs hkeeps
    exact ⟨hflt.trans hs, hcause⟩

/-! What a step and a run can do. -/

/-- Everything a step that answers a next state can do: reset, nothing, or one decoded instruction (R66, R85, R190). -/
theorem step_cases {s t : State} (h : step s = .next t) :
    (s.takeInput.1.rst = true ∧ t = s.takeInput.2.applyReset) ∨
    (s.takeInput.1.rst = false ∧ s.takeInput.1.cmd = none ∧ t = s.takeInput.2) ∨
    (s.takeInput.1.rst = false ∧ ∃ c i, s.takeInput.1.cmd = some c ∧
      decodeCommand s.takeInput.2.params.argw c = .ok i ∧ exec i s.takeInput.2 = .next t) := by
  simp only [step] at h
  by_cases hrst : s.takeInput.1.rst = true
  · rw [if_pos hrst] at h
    exact .inl ⟨hrst, (Host.Outcome.next.inj h).symm⟩
  · rw [if_neg hrst] at h
    have hrst' : s.takeInput.1.rst = false := by simpa using hrst
    cases hcmd : s.takeInput.1.cmd with
    | none =>
      simp only [hcmd] at h
      exact .inr (.inl ⟨hrst', rfl, (Host.Outcome.next.inj h).symm⟩)
    | some c =>
      simp only [hcmd] at h
      cases hdec : decodeCommand s.takeInput.2.params.argw c with
      | ok i =>
        simp only [hdec] at h
        exact .inr (.inr ⟨hrst', c, i, rfl, hdec, h⟩)
      | error _ =>
        simp only [hdec] at h
        cases h

/-- A run of `k + 1` steps that answers a next state takes a first step to some state and runs `k` steps from there. -/
theorem run_succ_cases {k : Nat} {s t : State} (h : Host.Core.run core (k + 1) s = .next t) :
    ∃ u, step s = .next u ∧ Host.Core.run core k u = .next t := by
  cases hstep : step s with
  | next u => exact ⟨u, rfl, by rwa [run_succ_of_next hstep] at h⟩
  | fault r => cases r
  | refused r =>
    have hcore : core.step s = .refused r := hstep
    simp only [Host.Core.run, hcore] at h
    cases h

/-! The fault state through steps without reset (R176). -/

/-- A step of a faulted CORE with `rst` inactive changes at most the record of the outcome, whatever the host presents. -/
theorem step_of_faulted {s t : State} (hs : s.flt = 1#1) (hrst : s.takeInput.1.rst = false) (h : step s = .next t) :
    ∃ o, t = { s with inputs := s.inputs.tail, outcome := o } := by
  rcases step_cases h with ⟨hreset, -⟩ | ⟨-, -, rfl⟩ | ⟨-, c, i, -, -, hexec⟩
  · cases hrst.symm.trans hreset
  · exact ⟨s.outcome, s.takeInput_frame⟩
  · rw [s.takeInput_frame, exec_of_faulted (s := { s with inputs := s.inputs.tail }) hs] at hexec
    exact ⟨.refused, (Host.Outcome.next.inj hexec).symm⟩

/-- Where none of the next `k + 1` inputs resets, the input taken does not, and none of the `k` after it does. -/
theorem State.takeInput_noReset {s : State} {k : Nat} (h : ∀ x ∈ s.inputs.take (k + 1), x.rst = false) :
    s.takeInput.1.rst = false ∧ ∀ x ∈ s.inputs.tail.take k, x.rst = false := by
  rcases hin : s.inputs with _ | ⟨x, rest⟩
  · simp [State.takeInput_nil hin]
  · rw [hin, List.take_succ_cons, List.forall_mem_cons] at h
    rwa [State.takeInput_cons hin]

/-- A run of a faulted CORE without reset leaves every register as it was. -/
theorem run_of_faulted_sameRegisters {k : Nat} {s t : State} (hs : s.flt = 1#1)
    (hin : ∀ h ∈ s.inputs.take k, h.rst = false) (hrun : Host.Core.run core k s = .next t) : t.SameRegisters s := by
  induction k generalizing s with
  | zero =>
    obtain rfl := Host.Outcome.next.inj hrun
    exact ⟨rfl, rfl, rfl, rfl, rfl⟩
  | succ k ih =>
    obtain ⟨hrst, hlater⟩ := State.takeInput_noReset hin
    obtain ⟨u, hstep, hrest⟩ := run_succ_cases hrun
    obtain ⟨o, rfl⟩ := step_of_faulted hs hrst hstep
    exact ih (s := { s with inputs := s.inputs.tail, outcome := o }) hs hlater hrest

/-- A legal faulted state holds no result: `ST` is NONE, and `RES` and `CNT` are 0 (R172). -/
theorem State.Legal.faulted_registers {s : State} (h : s.Legal) (hs : s.flt = 1#1) :
    s.res = 0#17 ∧ s.cnt = 0#2 ∧ s.st = stNone := by
  have hst : s.st = stNone := h.fault_holds_no_result hs
  have hnotOk : s.st ≠ stOk := by rw [hst]; decide
  obtain ⟨hres, hcnt⟩ := h.no_result_is_zero hnotOk
  exact ⟨hres, hcnt, hst⟩

/-- Settles O11: a run without reset keeps the registers of the faulted state, which legality makes those of R172. -/
theorem faultPersistsUntilReset : Obligations.FaultPersistsUntilReset := by
  refine ⟨fun i s hs => exec_of_faulted hs i, fun k s t hlegal hs hin hrun => ?_⟩
  obtain ⟨hres, hcnt, hst, hflt, hcause⟩ := run_of_faulted_sameRegisters hs hin hrun
  obtain ⟨hres₀, hcnt₀, hst₀⟩ := hlegal.faulted_registers hs
  exact ⟨hres.trans hres₀, hcnt.trans hcnt₀, hst.trans hst₀, hflt.trans hs, hcause⟩

end Sys2Proof.Machine

/-! PROOFS. The statement of 70_reset_and_hazards.md: reset gives the reset registers, and nothing else leaves the fault
state (R190). -/

namespace Sys2Proof.Machine

/-- A step whose input has `rst` asserted is the reset, whatever command stands beside it (R174, R190). -/
theorem step_of_rst {s : State} {h : HostInput} {rest : List HostInput} (hin : s.inputs = h :: rest)
    (hrst : h.rst = true) : step s = .next { s with inputs := rest }.applyReset := by
  simp only [step, State.takeInput_cons hin, if_pos hrst]

/-- The input taken has `rst` asserted only where the host presents one: a host with nothing left to drive holds the pin
inactive. -/
theorem State.exists_input_of_takeInput_rst {s : State} (hrst : s.takeInput.1.rst = true) :
    ∃ h rest, s.inputs = h :: rest ∧ h.rst = true := by
  rcases hin : s.inputs with _ | ⟨h, rest⟩
  · rw [State.takeInput_nil hin] at hrst
    cases hrst
  · rw [State.takeInput_cons hin] at hrst
    exact ⟨h, rest, rfl, hrst⟩

/-- A step of a faulted CORE with `rst` inactive keeps `FLT` set and the cause it holds (R175, R176). -/
theorem step_keeps_fault {s t : State} (hs : s.flt = 1#1) (hrst : s.takeInput.1.rst = false) (h : step s = .next t) :
    t.flt = 1#1 ∧ t.fcause = s.fcause := by
  obtain ⟨_, rfl⟩ := step_of_faulted hs hrst h
  exact ⟨hs, rfl⟩

/-- Settles O3: a reset step by what reset writes; conversely a step without reset keeps `FLT` and `FCAUSE` of a faulted
CORE, so one that clears or changes them took an input with `rst` asserted. -/
theorem resetPinRestoresResetState : Obligations.ResetPinRestoresResetState := by
  refine ⟨fun s h rest hin hrst => ⟨_, step_of_rst hin hrst, rfl, rfl, rfl, rfl, rfl⟩, fun s t hstep hs hchange => ?_⟩
  refine State.exists_input_of_takeInput_rst ?_
  by_contra hrst
  obtain ⟨hflt, hcause⟩ := step_keeps_fault hs (Bool.eq_false_of_not_eq_true hrst) hstep
  rcases hchange with hcleared | hchanged
  · cases hflt.symm.trans hcleared
  · exact hchanged hcause

end Sys2Proof.Machine

/-! PROOFS. The remaining statements of 30_encoding.md: decoding and encoding undo each other on every bus width (R81,
R85, R92), and the bus decides only which operands can be presented (R8, R90). -/

namespace Sys2Proof

/-- The operation code map gives the instruction that has the code it is given (R83). -/
@[simp] theorem Instr.opcode_ofOpcode (op : BitVec 3) (arg : Nat) : (Instr.ofOpcode op arg).opcode = op := by
  have hcode : ∀ op : BitVec 3, (Instr.ofOpcode op 0).opcode = op := by decide
  have harg : (Instr.ofOpcode op arg).opcode = (Instr.ofOpcode op 0).opcode := by
    unfold Instr.ofOpcode
    split <;> rfl
  exact harg.trans (hcode op)

/-- The ports of a word of 3 + `ARGW` bits, put side by side again, are the word (R81). -/
theorem encode_ofOpcode_ports {argw word : Nat} (h : word < 2 ^ (argw + 3)) :
    encode argw (Instr.ofOpcode (BitVec.ofNat 3 (word >>> argw)) (word % 2 ^ argw)) = word := by
  have hwf : (Instr.ofOpcode (BitVec.ofNat 3 (word >>> argw)) (word % 2 ^ argw)).WellFormed argw := by
    rw [Instr.WellFormed, Instr.ofOpcode_arg]
    exact Nat.mod_lt _ (Nat.two_pow_pos argw)
  have hop : word / 2 ^ argw < 2 ^ 3 := Nat.div_lt_of_lt_mul (by rwa [← Nat.pow_add])
  rw [encode_eq_add hwf, Instr.opcode_ofOpcode, Instr.ofOpcode_arg, Nat.shiftRight_eq_div_pow, BitVec.toNat_ofNat,
    Nat.mod_eq_of_lt hop, Nat.div_add_mod']

/-- A word with a bit above its 3 + `ARGW` bits is rejected by name. -/
theorem decodeWord_of_ge {argw word : Nat} (h : 2 ^ (argw + 3) ≤ word) :
    decodeWord argw word = .error .wordTooLong := by
  have htop : word >>> (argw + 3) ≠ 0 := by
    rw [Nat.shiftRight_eq_div_pow]
    exact (Nat.div_pos h (Nat.two_pow_pos _)).ne'
  rw [decodeWord, Command.ofWord, if_neg htop]

/-- Only words of 3 + `ARGW` bits decode. -/
theorem lt_of_decodeWord_eq_ok {argw word : Nat} {i : Instr} (h : decodeWord argw word = .ok i) :
    word < 2 ^ (argw + 3) := by
  by_contra hge
  rw [decodeWord_of_ge (Nat.le_of_not_lt hge)] at h
  cases h

/-- Settles O47: the word's two fields do not overlap, so each is read back as it was written. -/
theorem decodeOfEncodeIsTheInstruction : Obligations.DecodeOfEncodeIsTheInstruction :=
  fun _ _ h => decodeWord_encode h

/-- Settles O48: a word that decodes has 3 + `ARGW` bits, and such a word is put together again from its ports. -/
theorem encodeOfDecodeIsTheWord : Obligations.EncodeOfDecodeIsTheWord := by
  refine ⟨fun argw word i h => ?_, fun argw word h => ⟨_, decodeWord_of_lt h⟩, fun argw word h => decodeWord_of_ge h⟩
  have hlt := lt_of_decodeWord_eq_ok h
  obtain rfl := Except.ok.inj ((decodeWord_of_lt hlt).symm.trans h)
  refine ⟨?_, encode_ofOpcode_ports hlt⟩
  rw [Instr.WellFormed, Instr.ofOpcode_arg]
  exact Nat.mod_lt _ (Nat.two_pow_pos argw)

/-- Settles O49: fifteen closed facts about fixed words, by evaluation. -/
theorem listedWordsDecode : Obligations.ListedWordsDecode := by
  unfold Obligations.ListedWordsDecode
  decide

/-- Settles O50: where the operand fits the bus, its operation code alone decides what the command is. -/
theorem busWidthDoesNotChangeACommand : Obligations.BusWidthDoesNotChangeACommand :=
  fun _ _ _ ha hb => (decodeCommand_of_fits ha).trans (decodeCommand_of_fits hb).symm

namespace Machine

/-! What a step does with the input it takes (R85, R90, R190). -/

section
variable {s : State} {h : HostInput} {rest : List HostInput} (hin : s.inputs = h :: rest) (hrst : h.rst = false)
include hin hrst

theorem step_of_no_command (hcmd : h.cmd = none) : step s = .next { s with inputs := rest } := by
  simp only [step, State.takeInput_cons hin, hrst, hcmd]
  rfl

theorem step_of_decoded {c : Command} {i : Instr} (hcmd : h.cmd = some c)
    (hdec : decodeCommand s.params.argw c = .ok i) : step s = exec i { s with inputs := rest } := by
  simp [step, State.takeInput_cons hin, hrst, hcmd, hdec]

theorem step_of_not_fits {c : Command} (hcmd : h.cmd = some c) (hc : ¬ c.Fits s.params.argw) :
    step s = .refused .notACommand := by
  simp [step, State.takeInput_cons hin, hrst, hcmd, decodeCommand_of_not_fits hc]

end

/-- A host with nothing left to drive leaves the state as it is (R178). -/
theorem step_of_no_input {s : State} (hin : s.inputs = []) : step s = .next s := by
  simp only [step, State.takeInput_nil hin]
  rfl

/-- Settles O4: the reset replaces everything but the build parameters and the inputs that are left. -/
theorem resetKeepsBuildAndLaterInputs : Obligations.ResetKeepsBuildAndLaterInputs :=
  fun _ _ _ hin hrst => step_of_rst hin hrst

/-- Settles O5: with no input left, and with an input that presents nothing. -/
theorem idleStepChangesNoRegister : Obligations.IdleStepChangesNoRegister :=
  ⟨fun _ hin => step_of_no_input hin, fun _ _ _ hin hrst hcmd => step_of_no_command hin hrst hcmd⟩

/-- Settles O6: the step of a presented command that decodes. -/
theorem stepRunsTheDecodedInstruction : Obligations.StepRunsTheDecodedInstruction :=
  fun _ _ _ _ _ hin hrst hcmd hdec => step_of_decoded hin hrst hcmd hdec

/-- Settles O8: an operand too wide for the bus stops the step, any other one is decoded. -/
theorem unencodableOperandIsNoCommand : Obligations.UnencodableOperandIsNoCommand :=
  ⟨fun _ _ _ _ hin hrst hcmd hwide => step_of_not_fits hin hrst hcmd (Nat.not_lt.2 hwide),
    fun _ _ hfits => decodeCommand_of_fits hfits⟩

/-! A word of the opcode table as the next input (log entries 7, 17). -/

/-- A table word that decodes to `i` has ports that a bus of the table's width, or any wider one, decodes to `i`. -/
theorem ports_of_decodeTableWord {nbits w argw : Nat} {i : Instr} (hbus : Config.tableArgw ≤ argw)
    (h : decodeTableWord nbits w = some i) :
    ∃ c, Command.ofTableWord w = .ok c ∧ decodeCommand argw c = .ok i := by
  have hword : decodeWord Config.tableArgw w = .ok i := by
    cases hd : decodeWord Config.tableArgw w with
    | ok j => simpa [decodeTableWord, hd] using h
    | error _ => simp [decodeTableWord, hd] at h
  have hlt := lt_of_decodeWord_eq_ok hword
  have hfits : w % 2 ^ Config.tableArgw < 2 ^ argw :=
    (Nat.mod_lt _ (Nat.two_pow_pos _)).trans_le (Nat.pow_le_pow_right (by decide) hbus)
  refine ⟨_, Command.ofWord_of_lt hlt, (decodeCommand_of_fits hfits).trans ?_⟩
  exact (decodeWord_of_lt hlt).symm.trans hword

/-- Settles O7: the word's ports are the next input, and the wider bus decodes them as the table's does. -/
theorem tableWordRunsAtTheNextStep : Obligations.TableWordRunsAtTheNextStep := by
  intro s nbits w i hbus htable
  obtain ⟨c, hports, hdec⟩ := ports_of_decodeTableWord (argw := s.params.argw) hbus htable
  have hstate : s.withFetchWord nbits w = { s with inputs := ⟨false, some c⟩ :: s.inputs } := by
    simp only [State.withFetchWord, hports]
  rw [hstate]
  exact step_of_decoded rfl rfl rfl hdec

end Machine

end Sys2Proof

/-! PROOFS. The remaining statements of 40_gf2_multiplier.md and 20_memory.md section 3: the product over GF(2) is
linear (R101), `PAR` is built from `GEN` (R55, R56), and the identities of the syndrome (R107). -/

namespace Sys2Proof.Machine

/-! The weight of an exclusive or. -/

/-- Where both lists of places are counted together, the common places count twice. -/
theorem countP_xor_add_two_mul_countP_and (p q : Nat → Bool) (js : List Nat) :
    js.countP (fun j => p j ^^ q j) + 2 * js.countP (fun j => p j && q j) = js.countP p + js.countP q := by
  induction js with
  | nil => rfl
  | cons j js ih =>
    simp only [List.countP_cons]
    cases p j <;> cases q j <;> simp <;> omega

/-- The weights of two words count their common set bits twice, which the exclusive or drops. -/
theorem popcount_xor_add_two_mul_popcount_and {w : Nat} (a b : BitVec w) :
    popcount (a ^^^ b) + 2 * popcount (a &&& b) = popcount a + popcount b := by
  simp only [popcount, BitVec.getLsbD_xor, BitVec.getLsbD_and]
  exact countP_xor_add_two_mul_countP_and _ _ _

theorem popcount_xor_le {w : Nat} (a b : BitVec w) : popcount (a ^^^ b) ≤ popcount a + popcount b := by
  have hsum := popcount_xor_add_two_mul_popcount_and a b
  omega

theorem parity_xor {w : Nat} (a b : BitVec w) : parity (a ^^^ b) = (parity a ^^ parity b) := by
  have hsum := popcount_xor_add_two_mul_popcount_and a b
  have hmod : popcount (a ^^^ b) % 2 = (popcount a + popcount b) % 2 := by omega
  rw [parity, hmod, add_mod_two_beq_one, parity, parity]

/-! Maps that respect the exclusive or are fixed by what they do to the words with one set bit. -/

/-- A map of words that is linear over GF(2). -/
def XorLinear {m n : Nat} (f : BitVec m → BitVec n) : Prop := ∀ a b, f (a ^^^ b) = f a ^^^ f b

/-- The words with one set bit, at the set bits of `v`, sum to `v`. -/
theorem foldl_xor_twoPow {m : Nat} (v : BitVec m) :
    ((List.range m).filter fun j => v.getLsbD j).foldl (fun x j => x ^^^ BitVec.twoPow m j) 0#m = v := by
  refine BitVec.eq_of_getLsbD_eq fun i hi => ?_
  rw [foldl_xor_getLsbD, BitVec.getLsbD_zero, Bool.false_xor, List.countP_filter, ← parity_twoPow_and hi v, parity,
    popcount]
  congr 2
  refine List.countP_congr fun j hj => ?_
  simp [hi, List.mem_range.1 hj, @eq_comm _ i j]

namespace XorLinear

variable {m n : Nat} {f g : BitVec m → BitVec n}

theorem map_zero (hf : XorLinear f) : f 0#m = 0#n := by
  have h := hf 0#m 0#m
  rwa [BitVec.xor_self, BitVec.xor_self] at h

/-- A linear map gives the exclusive or of its values at the single bits (R101). -/
theorem eq_foldl (hf : XorLinear f) (v : BitVec m) :
    f v = ((List.range m).filter fun j => v.getLsbD j).foldl (fun x j => x ^^^ f (BitVec.twoPow m j)) 0#n := by
  rw [← hf.map_zero, List.foldl_hom f fun x j => (hf x (BitVec.twoPow m j)).symm, foldl_xor_twoPow]

/-- Two linear maps that agree on the single bits are equal. -/
theorem ext_twoPow (hf : XorLinear f) (hg : XorLinear g)
    (h : ∀ j < m, f (BitVec.twoPow m j) = g (BitVec.twoPow m j)) (v : BitVec m) : f v = g v := by
  rw [hf.eq_foldl v, hg.eq_foldl v]
  refine List.foldl_ext _ _ _ fun x j hj => ?_
  rw [h j (List.mem_range.1 (List.mem_filter.1 hj).1)]

end XorLinear

/-- The product with any matrix is linear: each row's parity is (R101). -/
theorem gf2Mul_xorLinear {R W : Nat} (M : Vector (BitVec W) R) : XorLinear (gf2Mul M) := by
  intro a b
  refine BitVec.eq_of_getLsbD_eq fun i hi => ?_
  have hrow : M[R - 1 - i] &&& (a ^^^ b) = (M[R - 1 - i] &&& a) ^^^ (M[R - 1 - i] &&& b) := by
    ext j
    simp [Bool.and_xor_distrib_left]
  rw [BitVec.getLsbD_xor, gf2Mul_getLsbD M _ hi, gf2Mul_getLsbD M a hi, gf2Mul_getLsbD M b hi, hrow, parity_xor]

theorem mulGen_xorLinear : XorLinear mulGen := gf2Mul_xorLinear GEN

theorem syndrome_xorLinear : XorLinear syndrome := gf2Mul_xorLinear PAR

/-- Bit `R - 1 - r` of column `j` is bit `j` of row `r` (R101). -/
theorem gf2Mul_twoPow_getLsbD {R W : Nat} (M : Vector (BitVec W) R) {j r : Nat} (hr : r < R) (hj : j < W) :
    (gf2Mul M (BitVec.twoPow W j)).getLsbD (R - 1 - r) = M[r].getLsbD j := by
  rw [matrixRowGivesResultBit.1 R W M _ r hr, BitVec.and_comm, parity_twoPow_and hj]

/-- Settles O23: linearity by the parity of each row; zero and the sum of the columns follow from it. -/
theorem matrixProductIsLinear : Obligations.MatrixProductIsLinear := by
  intro R W M
  have hlin := gf2Mul_xorLinear M
  exact ⟨hlin.map_zero, hlin, fun j r hr hj => gf2Mul_twoPow_getLsbD M hr hj, hlin.eq_foldl⟩

/-! The syndrome (R55, R56, R107). -/

theorem syndrome_eq_xorColumns (w : BitVec 17) : syndrome w = xorColumns parColumns w :=
  gf2Mul_eq_xorColumns (by decide) w

/-- Settles O26: the eight rows by comparison, the columns by the bits they share with the rows. -/
theorem parityCheckMatrixFromGenerator : Obligations.ParityCheckMatrixFromGenerator :=
  ⟨by decide, syndrome_eq_xorColumns⟩

/-- A word is its data part above its parity part. -/
theorem data_append_parity (w : BitVec 17) : w.extractLsb' 8 9 ++ w.extractLsb' 0 8 = w := by
  rw [BitVec.extractLsb'_append_extractLsb'_eq_extractLsb' (start₁ := 0) (len₁ := 8) rfl]
  exact BitVec.extractLsb'_eq_self

/-- The syndrome is the parity recomputed from the data, compared with the parity received (R107). -/
theorem syndrome_eq_mulGen_xor (w : BitVec 17) :
    syndrome w = mulGen (w.extractLsb' 8 9) ^^^ w.extractLsb' 0 8 := by
  rw [← syndrome_append, data_append_parity]

/-- A word with a zero syndrome is the encoding of its own data part. -/
theorem encodeData_of_syndrome_eq_zero {w : BitVec 17} (h : syndrome w = 0#8) :
    encodeData (w.extractLsb' 8 9) = w := by
  have hparity : mulGen (w.extractLsb' 8 9) = w.extractLsb' 0 8 := by
    rwa [syndrome_eq_mulGen_xor, BitVec.xor_eq_zero_iff] at h
  rw [encodeData, hparity, data_append_parity]

theorem syndrome_eq_zero_iff (w : BitVec 17) : syndrome w = 0#8 ↔ IsCodeword w :=
  ⟨fun h => ⟨_, encodeData_of_syndrome_eq_zero h⟩, IsCodeword.syndrome_eq_zero⟩

/-- An error shows through whatever codeword it is added to (R107). -/
theorem syndrome_codeword_xor {c : BitVec 17} (hc : IsCodeword c) (e : BitVec 17) :
    syndrome (c ^^^ e) = syndrome e := by
  rw [syndrome_xorLinear, hc.syndrome_eq_zero, BitVec.zero_xor]

/-- Settles O27: the four identities, from the split of a word into data and parity and from linearity. -/
theorem syndromeIdentities : Obligations.SyndromeIdentities :=
  ⟨syndrome_eq_mulGen_xor, syndrome_encodeData, syndrome_eq_zero_iff, fun _ e hc => syndrome_codeword_xor hc e⟩

end Sys2Proof.Machine

/-! PROOFS. The remaining statements of 41_rotator.md and 42_encoder.md: the rotation is a linear cycle of length 17
(R122), and the code is linear, cyclic and of minimum distance 5 (R132). -/

namespace Sys2Proof.Machine

/-! Words by their set bits (R10). -/

section
variable {w : Nat} {v : BitVec w}

theorem exists_getLsbD_of_ne_zero (h : v ≠ 0#w) : ∃ i < w, v.getLsbD i = true := by
  by_contra hnone
  refine h (BitVec.eq_of_getLsbD_eq fun i hi => ?_)
  rw [BitVec.getLsbD_zero]
  exact Bool.eq_false_of_not_eq_true fun hbit => hnone ⟨i, hi, hbit⟩

theorem eq_zero_of_popcount_eq_zero (h : popcount v = 0) : v = 0#w := by
  by_contra hne
  obtain ⟨i, hi, hbit⟩ := exists_getLsbD_of_ne_zero hne
  exact List.countP_eq_zero.1 h i (List.mem_range.2 hi) hbit

/-- Clearing a set bit lowers the weight by one. -/
theorem popcount_xor_twoPow {i : Nat} (hi : i < w) (hbit : v.getLsbD i = true) :
    popcount (v ^^^ BitVec.twoPow w i) + 1 = popcount v := by
  have hcommon : v &&& BitVec.twoPow w i = BitVec.twoPow w i := by
    rw [BitVec.and_twoPow, if_pos hbit]
  have hsum := popcount_xor_add_two_mul_popcount_and v (BitVec.twoPow w i)
  rw [hcommon, popcount_twoPow hi] at hsum
  omega

theorem eq_zero_or_twoPow_of_popcount_le_one (h : popcount v ≤ 1) : v = 0#w ∨ ∃ j < w, v = BitVec.twoPow w j := by
  by_cases hzero : v = 0#w
  · exact .inl hzero
  · obtain ⟨j, hj, hbit⟩ := exists_getLsbD_of_ne_zero hzero
    have hweight := popcount_xor_twoPow hj hbit
    have hrest : v ^^^ BitVec.twoPow w j = 0#w := eq_zero_of_popcount_eq_zero (by omega)
    exact .inr ⟨j, hj, BitVec.xor_eq_zero_iff.1 hrest⟩

end

/-! The rotation as a cycle of length 17 (R122). -/

theorem rot17_xorLinear : XorLinear rot17 := by
  intro a b
  simp only [rot17, BitVec.extractLsb'_xor]
  exact BitVec.xor_append.symm

theorem XorLinear.iterate {n : Nat} {f : BitVec n → BitVec n} (hf : XorLinear f) (k : Nat) : XorLinear f^[k] := by
  intro a b
  induction k with
  | zero => rfl
  | succ k ih =>
    simp only [Function.iterate_succ_apply', ih]
    exact hf _ _

/-- The rotation puts the two parts of a word in the other order, which changes no weight. -/
@[simp] theorem popcount_rot17 (w : BitVec 17) : popcount (rot17 w) = popcount w := by
  have hparts : w.extractLsb' 1 16 ++ w.extractLsb' 0 1 = w := by
    rw [BitVec.extractLsb'_append_extractLsb'_eq_extractLsb' (start₁ := 0) (len₁ := 1) rfl]
    exact BitVec.extractLsb'_eq_self
  calc popcount (rot17 w)
      = popcount (w.extractLsb' 0 1) + popcount (w.extractLsb' 1 16) := popcount_append ..
    _ = popcount (w.extractLsb' 1 16 ++ w.extractLsb' 0 1) := by rw [popcount_append, Nat.add_comm]
    _ = popcount w := by rw [hparts]

@[simp] theorem popcount_rot17_iterate (k : Nat) (w : BitVec 17) : popcount (rot17^[k] w) = popcount w := by
  induction k with
  | zero => rfl
  | succ k ih => rw [Function.iterate_succ_apply', popcount_rot17, ih]

/-- One rotation takes bit `i` sixteen places up the cycle, which is one place down. -/
theorem rot17_getLsbD_cycle (w : BitVec 17) {i : Nat} (hi : i < 17) :
    (rot17 w).getLsbD ((i + 16) % 17) = w.getLsbD i := by
  cases i with
  | zero => exact rot17_getLsbD_sixteen w
  | succ i =>
    have hplace : (i + 1 + 16) % 17 = i := by omega
    rw [hplace, rot17_getLsbD_of_lt w (by omega)]

theorem rot17_iterate_getLsbD (k : Nat) (w : BitVec 17) {i : Nat} (hi : i < 17) :
    (rot17^[k] w).getLsbD ((i + 16 * k) % 17) = w.getLsbD i := by
  induction k with
  | zero => rw [Nat.mul_zero, Nat.add_zero, Nat.mod_eq_of_lt hi, Function.iterate_zero_apply]
  | succ k ih =>
    have hplace : (i + 16 * (k + 1)) % 17 = ((i + 16 * k) % 17 + 16) % 17 := by omega
    rw [hplace, Function.iterate_succ_apply', rot17_getLsbD_cycle _ (Nat.mod_lt _ (by decide)), ih]

/-- Seventeen rotations bring every bit back to its place. -/
@[simp] theorem rot17_iterate_seventeen (w : BitVec 17) : rot17^[17] w = w := by
  refine BitVec.eq_of_getLsbD_eq fun i hi => ?_
  have hplace : (i + 16 * 17) % 17 = i := by omega
  have hbit := rot17_iterate_getLsbD 17 w hi
  rwa [hplace] at hbit

/-- Fewer rotations than 17 move bit 0 to another place. -/
theorem rot17_iterate_one_ne {k : Nat} (hpos : 0 < k) (hlt : k < 17) : rot17^[k] 1#17 ≠ 1#17 := by
  intro hfix
  have hbit := rot17_iterate_getLsbD k 1#17 (i := 0) (by decide)
  rw [hfix] at hbit
  have hstays : 16 * k % 17 = 0 := by simpa [BitVec.getLsbD_one] using hbit
  omega

/-- Sixteen further rotations undo one. -/
theorem rot17_bijective : Function.Bijective rot17 := by
  refine Function.bijective_iff_has_inverse.2 ⟨rot17^[16], fun w => ?_, fun w => ?_⟩
  · rw [← Function.iterate_succ_apply, rot17_iterate_seventeen]
  · rw [← Function.iterate_succ_apply' rot17, rot17_iterate_seventeen]

/-! The code is linear and cyclic (R132). -/

theorem encodeData_xorLinear : XorLinear encodeData := by
  intro a b
  rw [encodeData, mulGen_xorLinear]
  exact BitVec.xor_append.symm

theorem encodeData_injective : Function.Injective encodeData := by
  intro a b hab
  rw [← encodeData_extract_data a, hab, encodeData_extract_data]

theorem IsCodeword.xor {c c' : BitVec 17} (hc : IsCodeword c) (hc' : IsCodeword c') : IsCodeword (c ^^^ c') := by
  rw [← syndrome_eq_zero_iff, syndrome_codeword_xor hc, hc'.syndrome_eq_zero]

/-- By linearity it is enough to rotate the nine codewords of the single data bits. -/
theorem syndrome_rot17_encodeData (d : BitVec 9) : syndrome (rot17 (encodeData d)) = 0#8 := by
  have hlin : XorLinear fun d => syndrome (rot17 (encodeData d)) := by
    intro a b
    simp only [encodeData_xorLinear a b, rot17_xorLinear (encodeData a), syndrome_xorLinear (rot17 (encodeData a))]
  have hzero : XorLinear fun _ : BitVec 9 => 0#8 := fun _ _ => BitVec.xor_self.symm
  exact hlin.ext_twoPow hzero (by decide) d

theorem IsCodeword.rot17 {c : BitVec 17} (hc : IsCodeword c) : IsCodeword (rot17 c) := by
  obtain ⟨d, rfl⟩ := hc
  exact (syndrome_eq_zero_iff _).1 (syndrome_rot17_encodeData d)

theorem IsCodeword.rot17_iterate {c : BitVec 17} (hc : IsCodeword c) (k : Nat) : IsCodeword (Machine.rot17^[k] c) := by
  induction k with
  | zero => exact hc
  | succ k ih =>
    rw [Function.iterate_succ_apply']
    exact ih.rot17

/-- Settles O29: the cycle by the places of the bits, the weight by the two parts of a word, codewords by linearity. -/
theorem rotationIsASeventeenCycle : Obligations.RotationIsASeventeenCycle := by
  refine ⟨rot17_iterate_seventeen, fun k hpos hlt => ⟨1#17, rot17_iterate_one_ne hpos hlt⟩, rot17_bijective,
    popcount_rot17, rot17_xorLinear, fun k i w hi => rot17_iterate_getLsbD k w hi, fun c hc => ?_⟩
  exact ((syndrome_eq_zero_iff c).1 hc).rot17.syndrome_eq_zero

/-! The minimum distance (R132). -/

/-- A codeword's weight is that of its data and of the columns of `GEN` at the data's set bits. -/
theorem popcount_encodeData (d : BitVec 9) :
    popcount (encodeData d) = popcount d + popcount (xorColumns genColumns d) := by
  rw [encodeData, popcount_append, mulGen_eq_xorColumns]

/-- The weights of the 511 codewords of non-zero data words, one by one. -/
theorem five_le_popcount_data_add_parity :
    ∀ d : BitVec 9, d ≠ 0#9 → 5 ≤ popcount d + popcount (xorColumns genColumns d) := by
  decide

theorem IsCodeword.five_le_popcount {c : BitVec 17} (hc : IsCodeword c) (hne : c ≠ 0#17) : 5 ≤ popcount c := by
  obtain ⟨d, rfl⟩ := hc
  rw [popcount_encodeData]
  refine five_le_popcount_data_add_parity d fun hd => hne ?_
  rw [hd, encodeData_xorLinear.map_zero]

/-- A codeword of weight at most 4 is 0. -/
theorem IsCodeword.eq_zero_of_popcount_lt {c : BitVec 17} (hc : IsCodeword c) (h : popcount c < 5) : c = 0#17 := by
  by_contra hne
  exact absurd (hc.five_le_popcount hne) (Nat.not_le.2 h)

/-- Two errors of weight at most 2 with the same syndrome are equal: their exclusive or is a codeword of weight at most
4. -/
theorem eq_of_syndrome_eq_of_popcount_le_two {e e' : BitVec 17} (he : popcount e ≤ 2) (he' : popcount e' ≤ 2)
    (h : syndrome e = syndrome e') : e = e' := by
  have hcode : IsCodeword (e ^^^ e') := by
    rw [← syndrome_eq_zero_iff, syndrome_xorLinear, h, BitVec.xor_self]
  have hweight := popcount_xor_le e e'
  exact BitVec.xor_eq_zero_iff.1 (hcode.eq_zero_of_popcount_lt (by omega))

/-- Settles O31: linearity by that of the product, the distance by the weights of the codewords, attained by the data
word 1. -/
theorem codeIsLinearCyclicWithDistanceFive : Obligations.CodeIsLinearCyclicWithDistanceFive := by
  refine ⟨encodeData_xorLinear, encodeData_xorLinear.map_zero, encodeData_injective, fun _ hc => hc.rot17,
    fun _ _ hc hc' => hc.xor hc', fun _ hc hne => hc.five_le_popcount hne, fun c c' hc hc' hne => ?_,
    encodeData 1#9, ⟨1#9, rfl⟩, by decide⟩
  exact (hc.xor hc').five_le_popcount fun hzero => hne (BitVec.xor_eq_zero_iff.1 hzero)

end Sys2Proof.Machine

/-! PROOFS. The remaining statements of 20_memory.md section 4 and 43_decoder.md: the pattern table by construction (R57
to R59), the loop of the decoder (R144), and what it decodes (R147, R148). -/

namespace Sys2Proof.Machine

/-! The pattern table (R57, R58, R59). -/

/-- The patterns of R57: bit 0, alone or together with bit `j`. -/
def trapPattern (j : Nat) : BitVec 17 := 1#17 ||| BitVec.twoPow 17 j

/-- Every error of weight at most 2 with bit 0 set is one of the patterns. -/
theorem eq_trapPattern {p : BitVec 17} (hbit : p.getLsbD 0 = true) (h : popcount p ≤ 2) :
    ∃ j < 17, p = trapPattern j := by
  have hweight := popcount_xor_twoPow (by decide) hbit
  rcases eq_zero_or_twoPow_of_popcount_le_one (v := p ^^^ BitVec.twoPow 17 0) (by omega) with hrest | ⟨j, hj, hrest⟩
  · exact ⟨0, by decide, BitVec.xor_eq_zero_iff.1 hrest⟩
  · have hp : p = BitVec.twoPow 17 j ^^^ BitVec.twoPow 17 0 := by
      rw [← hrest, BitVec.xor_assoc, BitVec.xor_self, BitVec.xor_zero]
    have hsplit : ∀ j < 17, (BitVec.twoPow 17 j ^^^ BitVec.twoPow 17 0).getLsbD 0 = true →
        BitVec.twoPow 17 j ^^^ BitVec.twoPow 17 0 = trapPattern j := by decide
    exact ⟨j, hj, hp.trans (hsplit j hj (hp ▸ hbit))⟩

/-- Each pattern is stored at its syndrome. -/
theorem pat_full17_syndrome_trapPattern : ∀ j < 17, pat .full17 (syndrome (trapPattern j)) = trapPattern j := by
  decide

theorem pat_full17_syndrome {p : BitVec 17} (hbit : p.getLsbD 0 = true) (h : popcount p ≤ 2) :
    pat .full17 (syndrome p) = p := by
  obtain ⟨j, hj, rfl⟩ := eq_trapPattern hbit h
  exact pat_full17_syndrome_trapPattern j hj

/-- What is read from FULL17 and is not 0 is an entry of the list of R57. -/
theorem mem_patEntries_of_pat_ne_zero {s : BitVec 8} (h : pat .full17 s ≠ 0#17) : (s, pat .full17 s) ∈ patEntries := by
  rcases hl : patEntries.lookup s with _ | p
  · exact absurd (by simp [pat, hl]) h
  · have hp : pat .full17 s = p := by simp [pat, hl]
    obtain ⟨l₁, l₂, hsplit, -⟩ := List.lookup_eq_some_iff.1 hl
    rw [hp, hsplit]
    exact List.mem_append_right l₁ List.mem_cons_self

/-- Either table holds at an index the pattern of FULL17 or 0. -/
theorem pat_eq_full17_of_ne_zero {t : Config.PatTable} {s : BitVec 8} (h : pat t s ≠ 0#17) :
    pat t s = pat .full17 s := by
  cases t with
  | full17 => rfl
  | sparse12 => exact pat_eq_full17_of_not_mem _ fun hs => h (pat_sparse12_of_mem hs)

theorem mem_patEntries {t : Config.PatTable} {s : BitVec 8} (h : pat t s ≠ 0#17) : (s, pat t s) ∈ patEntries := by
  have hfull := pat_eq_full17_of_ne_zero h
  rw [hfull] at h
  rw [hfull]
  exact mem_patEntries_of_pat_ne_zero h

/-- The entries one by one: bit 0 set, weight 1 or 2, stored at the syndrome of the pattern (R59). -/
theorem patEntries_trap : ∀ e ∈ patEntries,
    e.2.getLsbD 0 = true ∧ (popcount e.2 = 1 ∨ popcount e.2 = 2) ∧ syndrome e.2 = e.1 :=
  List.forall_iff_forall_mem.1 (by decide)

section
variable {t : Config.PatTable} {s : BitVec 8} (h : pat t s ≠ 0#17)
include h

theorem pat_getLsbD_zero : (pat t s).getLsbD 0 = true := (patEntries_trap _ (mem_patEntries h)).1

theorem popcount_pat : popcount (pat t s) = 1 ∨ popcount (pat t s) = 2 := (patEntries_trap _ (mem_patEntries h)).2.1

theorem popcount_pat_le_two : popcount (pat t s) ≤ 2 := by
  rcases popcount_pat h with h1 | h2 <;> omega

theorem syndrome_pat : syndrome (pat t s) = s := (patEntries_trap _ (mem_patEntries h)).2.2

end

/-- The pattern stored for a word's syndrome turns the word into a codeword (R141). -/
theorem isCodeword_xor_pat {t : Config.PatTable} {w : BitVec 17} (h : pat t (syndrome w) ≠ 0#17) :
    IsCodeword (w ^^^ pat t (syndrome w)) := by
  rw [← syndrome_eq_zero_iff, syndrome_xorLinear, syndrome_pat h, BitVec.xor_self]

@[simp] theorem pat_zero (t : Config.PatTable) : pat t 0#8 = 0#17 := by
  cases t <;> decide

/-- Settles O33: the entries one by one, and what a pattern of the same syndrome does to a word. -/
theorem storedPatternsTrapErrors : Obligations.StoredPatternsTrapErrors :=
  fun t => ⟨pat_zero t, by cases t <;> decide, fun _ h => ⟨pat_getLsbD_zero h, popcount_pat h, syndrome_pat h⟩,
    fun _ h => isCodeword_xor_pat h⟩

/-- FULL17 stores nothing but the seventeen patterns at their syndromes. -/
theorem pat_full17_eq_zero_of_no_trapPattern {s : BitVec 8} (h : ∀ j < 17, syndrome (trapPattern j) ≠ s) :
    pat .full17 s = 0#17 := by
  by_contra hne
  obtain ⟨j, hj, hp⟩ := eq_trapPattern (pat_getLsbD_zero hne) (popcount_pat_le_two hne)
  exact h j hj (by rw [← hp, syndrome_pat hne])

/-- The entries of FULL17 at an index of even value are those that SPARSE12 clears (R58). -/
theorem patEntries_even_mem_sparseZeros : ∀ e ∈ patEntries, e.1.getLsbD 0 = false → e.1 ∈ sparseZeros :=
  List.forall_iff_forall_mem.1 (by decide)

theorem sparseZeros_even : ∀ s ∈ sparseZeros, s.getLsbD 0 = false := by
  decide

theorem pat_sparse12_eq_ite_odd (s : BitVec 8) :
    pat .sparse12 s = if s.getLsbD 0 = true then pat .full17 s else 0#17 := by
  split
  case isTrue hodd =>
    refine pat_eq_full17_of_not_mem _ fun hs => ?_
    rw [sparseZeros_even s hs] at hodd
    cases hodd
  case isFalse heven =>
    by_contra hne
    have hmem := patEntries_even_mem_sparseZeros _ (mem_patEntries hne) (Bool.eq_false_of_not_eq_true heven)
    exact hne (pat_sparse12_of_mem hmem)

/-- Settles O32: the seventeen patterns by evaluation, every other index by the list of the entries, and SPARSE12 by the
parity of an index. -/
theorem patternTableByConstruction : Obligations.PatternTableByConstruction := by
  refine ⟨fun _ hbit h => pat_full17_syndrome hbit h, fun _ h => pat_full17_eq_zero_of_no_trapPattern h, fun s => ?_,
    pat_sparse12_eq_ite_odd⟩
  simp only [pat, sparseZeros, List.mem_cons, List.not_mem_nil, or_false]

/-! The loop (R144). -/

/-- (a) A step that finds a pattern leaves a codeword. -/
theorem isCodeword_decStep {t : Config.PatTable} {x : DecWork} (h : pat t (syndrome x.cur) ≠ 0#17) :
    IsCodeword (decStep t x).cur := by
  have hsyn : syndrome x.cur ≠ 0#8 := fun hzero => h (by rw [hzero, pat_zero])
  rw [decStep_of_pattern t x hsyn h]
  exact (isCodeword_xor_pat h).rot17

/-- (b) From a codeword on, the loop only rotates. -/
theorem decLoop_of_codeword (t : Config.PatTable) (n : Nat) {x : DecWork} (hx : IsCodeword x.cur) :
    decLoop t n x = ⟨x.acc, rot17^[n] x.cur⟩ := by
  induction n generalizing x with
  | zero => rfl
  | succ n ih =>
    rw [decLoop, decStep_of_syndrome_zero t x hx.syndrome_eq_zero, ih hx.rot17, Function.iterate_succ_apply]

/-- The iteration on this word finds no codeword and no pattern. -/
def NoPattern (t : Config.PatTable) (w : BitVec 17) : Prop := syndrome w ≠ 0#8 ∧ pat t (syndrome w) = 0#17

/-- (c) While no iteration finds a pattern, the loop only rotates, and its first iteration marks the accumulator
undefined. -/
theorem decLoop_of_no_pattern (t : Config.PatTable) (n : Nat) (x : DecWork)
    (h : ∀ k < n, NoPattern t (rot17^[k] x.cur)) :
    decLoop t n x = ⟨if n = 0 then x.acc else none, rot17^[n] x.cur⟩ := by
  induction n generalizing x with
  | zero => rfl
  | succ n ih =>
    obtain ⟨hsyn, hpat⟩ := h 0 (Nat.succ_pos n)
    have hlater : ∀ k < n, NoPattern t (rot17^[k] (rot17 x.cur)) := by
      intro k hk
      simpa only [Function.iterate_succ_apply] using h (k + 1) (Nat.succ_lt_succ hk)
    rw [decLoop, decStep_of_no_pattern t x hsyn hpat, ih ⟨none, rot17 x.cur⟩ hlater, Function.iterate_succ_apply]
    simp

/-- Settles O36: the three consequences of one iteration, the last two by induction on the number of iterations. -/
theorem atMostOnePatternIsApplied : Obligations.AtMostOnePatternIsApplied :=
  ⟨fun _ _ h => (isCodeword_decStep h).syndrome_eq_zero,
    fun t n _ h => decLoop_of_codeword t n ((syndrome_eq_zero_iff _).1 h),
    fun t n w h => decLoop_of_no_pattern t n (decStart w) h⟩

/-! Where the loop finds a pattern, and what it has then found. -/

/-- A rotation of a word is a codeword only if the word is: further rotations lead back to it. -/
theorem isCodeword_of_rot17 {w : BitVec 17} (h : IsCodeword (rot17 w)) : IsCodeword w := by
  have hback := h.rot17_iterate 16
  rwa [← Function.iterate_succ_apply, rot17_iterate_seventeen] at hback

theorem isCodeword_of_rot17_iterate {w : BitVec 17} (k : Nat) (h : IsCodeword (rot17^[k] w)) : IsCodeword w := by
  induction k with
  | zero => exact h
  | succ k ih =>
    rw [Function.iterate_succ_apply'] at h
    exact ih (isCodeword_of_rot17 h)

/-- R58: where a table does not store the pattern of bits 0 and `j`, it stores the pattern that rotating bit `j` to bit
0 makes of it. -/
theorem pat_trapPattern_or_rotated (t : Config.PatTable) : ∀ j < 17,
    pat t (syndrome (trapPattern j)) ≠ 0#17 ∨ pat t (syndrome (rot17^[j] (trapPattern j))) ≠ 0#17 := by
  cases t <;> decide

/-- Some rotation of every error of weight 1 or 2 is a stored pattern: one of its bits comes to bit 0. -/
theorem exists_rotation_stored (t : Config.PatTable) {e : BitVec 17} (hne : e ≠ 0#17) (h : popcount e ≤ 2) :
    ∃ k < 17, pat t (syndrome (rot17^[k] e)) ≠ 0#17 := by
  obtain ⟨i, hi, hbit⟩ := exists_getLsbD_of_ne_zero hne
  have hplace : (i + 16 * i) % 17 = 0 := by omega
  have hlow := rot17_iterate_getLsbD i e hi
  rw [hplace, hbit] at hlow
  obtain ⟨j, hj, hp⟩ := eq_trapPattern hlow (by rwa [popcount_rot17_iterate])
  have hsome : ∃ k, pat t (syndrome (rot17^[k] e)) ≠ 0#17 := by
    rcases pat_trapPattern_or_rotated t j hj with hstored | hrotated
    · exact ⟨i, by rwa [hp]⟩
    · exact ⟨j + i, by rwa [Function.iterate_add_apply, hp]⟩
  obtain ⟨k, hk⟩ := hsome
  have hperiod : Function.IsPeriodicPt rot17 17 e := rot17_iterate_seventeen e
  exact ⟨k % 17, Nat.mod_lt _ (by decide), by rwa [hperiod.iterate_mod_apply]⟩

@[simp] theorem decStart_cur (w : BitVec 17) : (decStart w).cur = w := rfl

theorem decLoop_add (t : Config.PatTable) (m n : Nat) (x : DecWork) :
    decLoop t (m + n) x = decLoop t m (decLoop t n x) := by
  simp only [decLoop_eq_iterate, Function.iterate_add_apply]

/-- A loop that finds its first pattern in iteration `k` applies it and rotates on, so the pattern, rotated on with the
word, comes off it. -/
theorem decLoop_of_first_pattern {t : Config.PatTable} {w : BitVec 17} (m : Nat) {k : Nat}
    (hbefore : ∀ j < k, NoPattern t (rot17^[j] w)) {p : BitVec 17} (hp : pat t (syndrome (rot17^[k] w)) = p)
    (hne : p ≠ 0#17) :
    decLoop t (m + 1 + k) (decStart w) = ⟨some (popcount p), rot17^[m + 1] (rot17^[k] w ^^^ p)⟩ := by
  subst hp
  have hsyn : syndrome (rot17^[k] w) ≠ 0#8 := fun hzero => hne (by rw [hzero, pat_zero])
  have hcode := (isCodeword_xor_pat hne).rot17
  rw [decLoop_add, decLoop_add, decLoop_of_no_pattern t k (decStart w) hbefore]
  rw [decStart_cur, decLoop, decLoop, decStep_of_pattern t ⟨_, rot17^[k] w⟩ hsyn hne, decLoop_of_codeword t m hcode]
  rfl

/-! What the decoder answers (R147, R148). -/

/-- The decoder answers the data of a codeword within distance 2, with the distance. -/
def DecodesWithinTwo (t : Config.PatTable) (w : BitVec 17) : Prop :=
  ∃ d n, decodeReceived t w = some (d, n) ∧ popcount (w ^^^ encodeData d) = n ∧ n ≤ 2

/-- A final word that is a codeword within distance 2, with the distance as the count, is such an answer. -/
theorem decodesWithinTwo_of_decLoop {t : Config.PatTable} {w e : BitVec 17} (he : popcount e ≤ 2)
    (hcode : IsCodeword (w ^^^ e)) (hloop : decLoop t 17 (decStart w) = ⟨some (popcount e), w ^^^ e⟩) :
    DecodesWithinTwo t w := by
  have hdata := encodeData_of_syndrome_eq_zero hcode.syndrome_eq_zero
  have hdecode := decodeReceived_of_acc_some (t := t) (w := w) (n := popcount e) (by rw [hloop])
  rw [hloop] at hdecode
  refine ⟨_, _, hdecode, ?_, he⟩
  rw [hdata, ← BitVec.xor_assoc, BitVec.xor_self, BitVec.zero_xor]

theorem decodesWithinTwo_of_codeword (t : Config.PatTable) {w : BitVec 17} (hw : IsCodeword w) :
    DecodesWithinTwo t w := by
  refine decodesWithinTwo_of_decLoop (e := 0#17) (by decide) (by rwa [BitVec.xor_zero]) ?_
  rw [decLoop_of_codeword t 17 (x := decStart w) hw, BitVec.xor_zero, popcount_zero]
  exact congrArg _ (rot17_iterate_seventeen w)

theorem decodesWithinTwo_of_first_pattern {t : Config.PatTable} {w : BitVec 17} {k : Nat} (hk : k < 17)
    (hbefore : ∀ j < k, NoPattern t (rot17^[j] w)) (hne : pat t (syndrome (rot17^[k] w)) ≠ 0#17) :
    DecodesWithinTwo t w := by
  obtain ⟨m, hkm⟩ : ∃ m, m + 1 + k = 17 := ⟨16 - k, by omega⟩
  have hloop := decLoop_of_first_pattern m hbefore rfl hne
  have hcode := (isCodeword_xor_pat hne).rot17_iterate (m + 1)
  have hword : rot17^[m + 1] (rot17^[k] w) = w := by
    rw [← Function.iterate_add_apply, hkm, rot17_iterate_seventeen]
  rw [rot17_xorLinear.iterate, hword] at hcode hloop
  rw [hkm, ← popcount_rot17_iterate (m + 1)] at hloop
  exact decodesWithinTwo_of_decLoop (by rw [popcount_rot17_iterate]; exact popcount_pat_le_two hne) hcode hloop

/-- Either some iteration finds a codeword or a pattern, and the decoder answers within distance 2, or none does. -/
theorem decodesWithinTwo_or_noPattern (t : Config.PatTable) (w : BitVec 17) :
    DecodesWithinTwo t w ∨ ∀ k < 17, NoPattern t (rot17^[k] w) := by
  by_cases hw : IsCodeword w
  · exact .inl (decodesWithinTwo_of_codeword t hw)
  have hsyn : ∀ k, syndrome (rot17^[k] w) ≠ 0#8 := fun k hzero =>
    hw (isCodeword_of_rot17_iterate k ((syndrome_eq_zero_iff _).1 hzero))
  by_cases hstored : ∃ k, k < 17 ∧ pat t (syndrome (rot17^[k] w)) ≠ 0#17
  · obtain ⟨hk, hne⟩ := Nat.find_spec hstored
    refine .inl (decodesWithinTwo_of_first_pattern hk (fun j hj => ⟨hsyn j, ?_⟩) hne)
    by_contra hj0
    exact Nat.find_min hstored hj ⟨hj.trans hk, hj0⟩
  · refine .inr fun k hk => ⟨hsyn k, ?_⟩
    by_contra hne
    exact hstored ⟨k, hk, hne⟩

/-- Where no iteration finds a pattern, the accumulator ends undefined. -/
theorem decodeReceived_of_noPattern {t : Config.PatTable} {w : BitVec 17} (h : ∀ k < 17, NoPattern t (rot17^[k] w)) :
    decodeReceived t w = none := by
  refine decodeReceived_of_acc_none ?_
  rw [decLoop_of_no_pattern t 17 (decStart w) h]
  rfl

/-- An answer of the decoder is the data of a codeword at the distance it counts, which is at most 2. -/
theorem distance_of_decodeReceived {t : Config.PatTable} {w : BitVec 17} {d : BitVec 9} {n : Nat}
    (h : decodeReceived t w = some (d, n)) : popcount (w ^^^ encodeData d) = n ∧ n ≤ 2 := by
  rcases decodesWithinTwo_or_noPattern t w with ⟨d', n', hdecode, hdist⟩ | hnone
  · obtain ⟨rfl, rfl⟩ := Prod.mk.inj (Option.some.inj (h.symm.trans hdecode))
    exact hdist
  · cases h.symm.trans (decodeReceived_of_noPattern hnone)

/-- Adding a codeword changes no syndrome, in any rotation. -/
theorem syndrome_rot17_iterate_xor_codeword {c : BitVec 17} (hc : IsCodeword c) (w : BitVec 17) (k : Nat) :
    syndrome (rot17^[k] (w ^^^ c)) = syndrome (rot17^[k] w) := by
  rw [rot17_xorLinear.iterate, BitVec.xor_comm, syndrome_codeword_xor (hc.rot17_iterate k)]

/-- A word within distance 2 of a codeword is decoded: the error, in some rotation, is a stored pattern. -/
theorem decodesWithinTwo_of_distance (t : Config.PatTable) {w : BitVec 17} {d : BitVec 9}
    (h : popcount (w ^^^ encodeData d) ≤ 2) : DecodesWithinTwo t w := by
  refine (decodesWithinTwo_or_noPattern t w).resolve_right fun hnone => ?_
  by_cases hzero : w ^^^ encodeData d = 0#17
  · have hw : IsCodeword w := ⟨d, (BitVec.xor_eq_zero_iff.1 hzero).symm⟩
    exact (hnone 0 (by decide)).1 hw.syndrome_eq_zero
  · obtain ⟨k, hk, hne⟩ := exists_rotation_stored t hzero h
    rw [syndrome_rot17_iterate_xor_codeword ⟨d, rfl⟩] at hne
    exact hne (hnone k hk).2

/-- No word is within distance 2 of two codewords. -/
theorem eq_of_distance_le_two {w : BitVec 17} {d d' : BitVec 9} (h : popcount (w ^^^ encodeData d) ≤ 2)
    (h' : popcount (w ^^^ encodeData d') ≤ 2) : d = d' := by
  have herror : w ^^^ encodeData d = w ^^^ encodeData d' := by
    refine eq_of_syndrome_eq_of_popcount_le_two h h' ?_
    rw [syndrome_xorLinear, syndrome_xorLinear, syndrome_encodeData, syndrome_encodeData]
  exact encodeData_injective ((BitVec.xor_right_inj w).1 herror)

theorem decodeReceived_eq_some_iff (t : Config.PatTable) (w : BitVec 17) (d : BitVec 9) (n : Nat) :
    decodeReceived t w = some (d, n) ↔ popcount (w ^^^ encodeData d) = n ∧ n ≤ 2 := by
  refine ⟨distance_of_decodeReceived, fun ⟨hdist, hn⟩ => ?_⟩
  subst hdist
  obtain ⟨d', n', hdecode, hdist', hn'⟩ := decodesWithinTwo_of_distance t hn
  obtain rfl : d' = d := eq_of_distance_le_two (hdist'.trans_le hn') hn
  rw [hdecode, hdist']

theorem decodeReceived_eq_none_iff (t : Config.PatTable) (w : BitVec 17) :
    decodeReceived t w = none ↔ ∀ d : BitVec 9, 3 ≤ popcount (w ^^^ encodeData d) := by
  constructor
  · intro hnone d
    by_contra hlt
    have hsome := (decodeReceived_eq_some_iff t w d _).2 ⟨rfl, by omega⟩
    cases hnone.symm.trans hsome
  · intro hfar
    rcases hdecode : decodeReceived t w with _ | ⟨d, n⟩
    · rfl
    · obtain ⟨hdist, hn⟩ := distance_of_decodeReceived hdecode
      have h3 := hfar d
      omega

/-- Settles O38: an answer is always at the distance it counts, and a word within distance 2 always gets its answer. -/
theorem decoderIsBoundedDistanceTwo : Obligations.DecoderIsBoundedDistanceTwo :=
  fun t w => ⟨decodeReceived_eq_some_iff t w, decodeReceived_eq_none_iff t w⟩

/-- Settles O37: the received word is at the distance of the error's weight from the codeword sent. -/
theorem decoderCorrectsTwoErrors : Obligations.DecoderCorrectsTwoErrors := by
  intro t d e he
  have herror : encodeData d ^^^ e ^^^ encodeData d = e := by
    rw [BitVec.xor_comm (encodeData d), BitVec.xor_assoc, BitVec.xor_self, BitVec.xor_zero]
  exact (decodeReceived_eq_some_iff t _ d _).2 ⟨by rw [herror], he⟩

/-- Settles O39: the distances to the codewords decide every answer, and they do not depend on the table. -/
theorem decoderIgnoresThePatternTableChoice : Obligations.DecoderIgnoresThePatternTableChoice :=
  fun w => Option.ext fun ⟨d, n⟩ =>
    (decodeReceived_eq_some_iff .full17 w d n).trans (decodeReceived_eq_some_iff .sparse12 w d n).symm

/-! DEC as an instruction (R146). -/

section
variable {s : State} (hs : s.flt = 0#1) {arg : Nat} (harg : arg < 2 ^ 17)
include hs harg

theorem exec_dec_of_some {d : BitVec 9} {n : Nat}
    (h : decodeReceived s.params.patTable (BitVec.ofNat 17 arg) = some (d, n)) :
    exec (.dec arg) s = .next (s.writeOk (d.setWidth 17) (BitVec.ofNat 2 n)) := by
  rw [exec_dec, runOperation_of_fits hs harg]
  simp only [operandValue, h]

theorem exec_dec_of_none (h : decodeReceived s.params.patTable (BitVec.ofNat 17 arg) = none) :
    exec (.dec arg) s = .next s.writeFail := by
  rw [exec_dec, runOperation_of_fits hs harg]
  simp only [operandValue, h]

/-- DEC of a word within distance 2 of the codeword of `d` gives `d`, under either table. -/
theorem exec_dec_endsOk_of_distance {d : BitVec 9} {n : Nat}
    (hdist : popcount (BitVec.ofNat 17 arg ^^^ encodeData d) = n) (hn : n ≤ 2) :
    EndsOk (.dec arg) s (d.setWidth 17) (BitVec.ofNat 2 n) :=
  ⟨.ok, exec_dec_of_some hs harg ((decodeReceived_eq_some_iff _ _ d n).2 ⟨hdist, hn⟩)⟩

theorem exec_dec_endsFail (h : decodeReceived s.params.patTable (BitVec.ofNat 17 arg) = none) :
    EndsFail (.dec arg) s :=
  ⟨.fail, exec_dec_of_none hs harg h⟩

end

/-- The corner case of R146 that fails: no rotation of 0x0000B has a stored pattern. -/
theorem decodeReceived_0x0000B (t : Config.PatTable) : decodeReceived t 0x0000B#17 = none := by
  cases t <;> decide +kernel

/-- Settles O15: the frame of an operation with the width 17 and the cause 3; the count by the distance it stands for,
and the corner cases by their distances to a codeword. -/
theorem decResult : Obligations.DecResult := by
  refine ⟨encodedAs_of_opcode (fun _ => rfl) fun _ => rfl, fun s arg d n hs harg h => ?_,
    fun s arg hs harg h => exec_dec_endsFail hs harg h,
    fun s arg hs harg => endsFaulted_of_wide hs (exec_dec arg s) harg, fun s hs => ⟨?_, ?_, ?_, ?_, ?_⟩⟩
  · exact ⟨(distance_of_decodeReceived h).2, .ok, exec_dec_of_some hs harg h⟩
  · exact exec_dec_endsOk_of_distance hs (by decide) (d := 0x000#9) (n := 0) (by decide) (by decide)
  · exact exec_dec_endsOk_of_distance hs (by decide) (d := 0x1FF#9) (n := 0) (by decide) (by decide)
  · exact exec_dec_endsOk_of_distance hs (by decide) (d := 0x055#9) (n := 2) (by decide) (by decide)
  · exact exec_dec_endsFail hs (by decide) (decodeReceived_0x0000B _)
  · exact endsFaulted_of_wide hs (exec_dec _ s) (by decide)

end Sys2Proof.Machine

/-! PROOFS. The remaining statements of 10_state.md, 43_decoder.md, 60_exceptions.md and 70_reset_and_hazards.md: how a
command can end, legal states, runs of loaded programs, and several CORE side by side. -/

namespace Sys2Proof.Machine

/-! How a command can end. -/

/-- A count that CORE can write goes up to 2, and one other than 0 stands beside a result of 9 bits (R25, R26). -/
def CountFits (r : BitVec 17) (c : BitVec 2) : Prop := c ≠ 3#2 ∧ (c ≠ 0#2 → fitsWidth 9 r.toNat)

theorem countFits_zero (r : BitVec 17) : CountFits r 0#2 :=
  ⟨by decide, fun h => absurd rfl h⟩

/-- What the decoder answers is written as a result of 9 bits with a count of at most 2. -/
theorem countFits_of_decodeReceived {t : Config.PatTable} {w : BitVec 17} {d : BitVec 9} {n : Nat}
    (h : decodeReceived t w = some (d, n)) : CountFits (d.setWidth 17) (BitVec.ofNat 2 n) := by
  obtain ⟨-, hn⟩ := distance_of_decodeReceived h
  refine ⟨fun h3 => ?_, fun _ => ?_⟩
  · have hval := congrArg BitVec.toNat h3
    rw [BitVec.toNat_ofNat, Nat.mod_eq_of_lt (by omega)] at hval
    exact absurd hval (by simp; omega)
  · rw [fitsWidth, BitVec.toNat_setWidth_of_le (by decide)]
    exact d.isLt

/-- The two ways in which a command that keeps its contract ends: in OK, or, only for DEC, in FAIL (R27). -/
def Completes (i : Instr) (s t : State) : Prop :=
  (∃ r c, CountFits r c ∧ t = s.writeOk r c) ∨ ((∃ arg, i = .dec arg) ∧ t = s.writeFail)

/-- The three ways in which a command ends: refused, faulted or completed (R85). -/
inductive Ending (i : Instr) (s t : State) : Prop where
  | refused (hs : s.flt = 1#1) (ht : t = s.refuse)
  | faulted (hs : s.flt = 0#1) (hi : breaksContract i = true) (ht : t = s.raiseFault (faultCause i))
  | completed (hs : s.flt = 0#1) (hi : breaksContract i = false) (ht : Completes i s t)

section
variable {i : Instr} {s t : State} {W arg : Nat} {c : Cause} (hi : breaksContract i = decide (2 ^ W ≤ arg))
  (hc : faultCause i = c)
include hi hc

/-- The frame of an operation leads to the three endings, once its width and cause are the instruction's. -/
theorem ending_of_runOperation {perform : BitVec W → State → State}
    (hp : Completes i s (perform (operandValue W arg) s)) (h : runOperation W c arg perform s = .next t) :
    Ending i s t := by
  rcases runOperation_cases h with ⟨hs, ht⟩ | ⟨hs, hwide, ht⟩ | ⟨hs, hfits, ht⟩
  · exact .refused hs ht
  · exact .faulted hs (hi.trans (decide_eq_true hwide)) (hc ▸ ht)
  · exact .completed hs (hi.trans (decide_eq_false (Nat.not_le.2 hfits))) (ht ▸ hp)

/-- An operation that writes a result of its own with the count 0 completes in OK. -/
theorem ending_of_writeOk {result : BitVec W → State → BitVec 17}
    (h : runOperation W c arg (fun v s => s.writeOk (result v s) 0#2) s = .next t) : Ending i s t :=
  ending_of_runOperation hi hc (.inl ⟨_, _, countFits_zero _, rfl⟩) h

end

/-- Everything an instruction can do. -/
theorem exec_ending {i : Instr} {s t : State} (h : exec i s = .next t) : Ending i s t := by
  cases i with
  | enc arg => exact ending_of_writeOk (result := fun d _ => encodeData d) rfl rfl h
  | rot arg => exact ending_of_writeOk (result := fun w _ => rot17 w) rfl rfl h
  | mulg arg => exact ending_of_writeOk (result := fun d _ => (mulGen d).setWidth 17) rfl rfl h
  | syn arg => exact ending_of_writeOk (result := fun w _ => (syndrome w).setWidth 17) rfl rfl h
  | pat arg => exact ending_of_writeOk (result := fun i s => pat s.params.patTable i) rfl rfl h
  | dec arg =>
    rw [exec_dec] at h
    refine ending_of_runOperation rfl rfl ?_ h
    rcases hdecode : decodeReceived s.params.patTable (operandValue 17 arg) with _ | ⟨d, n⟩
    · exact .inr ⟨⟨arg, rfl⟩, rfl⟩
    · exact .inl ⟨_, _, countFits_of_decodeReceived hdecode, rfl⟩
  | reserved6 _ | reserved7 _ =>
    rcases runReserved_cases h with ⟨hs, ht⟩ | ⟨hs, ht⟩
    · exact .refused hs ht
    · exact .faulted hs rfl ht

/-- Every instruction answers a next state (R196). -/
theorem exec_next (i : Instr) (s : State) : ∃ t, exec i s = .next t := by
  obtain ⟨o, ho⟩ := exec_endsAs_commandEnd i s
  exact ⟨_, ho⟩

/-- Settles O21: the end of the pseudocode is a next state. -/
theorem everyInstructionAnswersANextState : Obligations.EveryInstructionAnswersANextState := exec_next

/-- A command writes neither the build parameters nor the host's inputs, however it ends. -/
theorem exec_frame {i : Instr} {s t : State} (h : exec i s = .next t) : t.params = s.params ∧ t.inputs = s.inputs := by
  cases exec_ending h with
  | refused _ ht | faulted _ _ ht => subst ht; exact ⟨rfl, rfl⟩
  | completed _ _ ht =>
    obtain ⟨r, c, -, rfl⟩ | ⟨-, rfl⟩ := ht <;> exact ⟨rfl, rfl⟩

/-- A command that keeps its contract leaves `FLT` and `FCAUSE` alone (R170). -/
theorem exec_keeps_fault_registers {i : Instr} {s t : State} (h : exec i s = .next t)
    (hi : breaksContract i = false) : t.flt = s.flt ∧ t.fcause = s.fcause := by
  cases exec_ending h with
  | refused _ ht => subst ht; exact ⟨rfl, rfl⟩
  | faulted _ hbreaks _ => cases hi.symm.trans hbreaks
  | completed _ _ ht =>
    obtain ⟨r, c, -, rfl⟩ | ⟨-, rfl⟩ := ht <;> exact ⟨rfl, rfl⟩

/-- Settles O20: the frame of a command in general, of one that keeps its contract, and of a refused one. -/
theorem commandFrame : Obligations.CommandFrame := by
  intro i s t h
  obtain ⟨hparams, hinputs⟩ := exec_frame h
  have hrefused : s.flt = 1#1 → t = s.refuse := fun hs =>
    (Host.Outcome.next.inj ((exec_of_faulted hs i).symm.trans h)).symm
  refine ⟨hparams, hinputs, ?_, fun hs => ?_⟩
  · rintro (hs | hi)
    · rw [hrefused hs]
      exact ⟨rfl, rfl⟩
    · exact exec_keeps_fault_registers h hi
  · rw [hrefused hs]
    exact ⟨rfl, rfl, rfl⟩

/-- Settles O13: each of the three endings writes its own record. -/
theorem outcomeRecordsHowTheCommandEnded : Obligations.OutcomeRecordsHowTheCommandEnded := by
  intro i s t h
  cases exec_ending h with
  | refused hs ht => simp [hs, ht]
  | faulted hs hi ht => simp [hs, hi, ht]
  | completed hs hi ht =>
    obtain ⟨r, c, -, rfl⟩ | ⟨hdec, rfl⟩ := ht
    · simp [hs, hi, stOk]
    · simp [hs, hi, stFail, hdec]

/-! Legal states (10_state.md section 4). -/

/-- Settles O2: the eight clauses at the reset state. -/
theorem resetStateIsLegal : Obligations.ResetStateIsLegal := by
  refine ⟨?_, ?_, ?_, ?_, ?_, ?_, ?_, ⟨rfl, rfl⟩⟩ <;> decide

namespace State.Legal

variable {s : State}

/-- Legality says nothing of the inputs the host drives. -/
theorem with_inputs (h : s.Legal) (rest : List HostInput) : { s with inputs := rest }.Legal :=
  { h with }

theorem takeInput (h : s.Legal) : s.takeInput.2.Legal := by
  rw [s.takeInput_frame]
  exact h.with_inputs _

/-- A reset state is legal whatever the build, since the registers and the record are those of reset. -/
theorem applyReset (h : s.Legal) : s.applyReset.Legal :=
  { resetStateIsLegal with params_legal := h.params_legal }

theorem refuse (h : s.Legal) (hs : s.flt = 1#1) : s.refuse.Legal :=
  { h with outcome_agrees := hs }

theorem raiseFault (h : s.Legal) {c : Cause} (hc : c ≠ 0#3) : (s.raiseFault c).Legal where
  params_legal := h.params_legal
  st_produced := by simp [stNone]
  cnt_produced := by simp
  cause_iff_fault := by simp [hc]
  fault_holds_no_result := fun _ => rfl
  no_result_is_zero := fun _ => ⟨rfl, rfl⟩
  counted_result_is_data := fun hcnt => absurd rfl hcnt
  outcome_agrees := ⟨rfl, rfl⟩

theorem writeOk (h : s.Legal) (hs : s.flt = 0#1) {r : BitVec 17} {c : BitVec 2} (hrc : CountFits r c) :
    (s.writeOk r c).Legal where
  params_legal := h.params_legal
  st_produced := by simp [stOk]
  cnt_produced := hrc.1
  cause_iff_fault := h.cause_iff_fault
  fault_holds_no_result := fun hf => by cases hs.symm.trans hf
  no_result_is_zero := fun hst => absurd rfl hst
  counted_result_is_data := hrc.2
  outcome_agrees := ⟨rfl, hs⟩

theorem writeFail (h : s.Legal) (hs : s.flt = 0#1) : s.writeFail.Legal where
  params_legal := h.params_legal
  st_produced := by simp [stFail]
  cnt_produced := by simp
  cause_iff_fault := h.cause_iff_fault
  fault_holds_no_result := fun hf => by cases hs.symm.trans hf
  no_result_is_zero := fun _ => ⟨rfl, rfl⟩
  counted_result_is_data := fun hcnt => absurd rfl hcnt
  outcome_agrees := ⟨rfl, hs⟩

end State.Legal

/-- Every row of the table of causes has a cause of its own, and 0 is none of them (R171). -/
theorem faultCause_ne_zero (i : Instr) : faultCause i ≠ 0#3 := by
  cases i <;> simp [faultCause]

/-- Every instruction keeps the state legal, however it ends. -/
theorem exec_legal {i : Instr} {s t : State} (hs : s.Legal) (h : exec i s = .next t) : t.Legal := by
  cases exec_ending h with
  | refused hf ht => exact ht ▸ hs.refuse hf
  | faulted _ _ ht => exact ht ▸ hs.raiseFault (faultCause_ne_zero i)
  | completed hf _ ht =>
    obtain ⟨r, c, hrc, rfl⟩ | ⟨-, rfl⟩ := ht
    · exact hs.writeOk hf hrc
    · exact hs.writeFail hf

/-- Settles O40: a step is a reset, nothing or an instruction, and each of them keeps the state legal. -/
theorem stepKeepsTheStateLegal : Obligations.StepKeepsTheStateLegal := by
  intro s t hs h
  rcases step_cases h with ⟨-, rfl⟩ | ⟨-, -, rfl⟩ | ⟨-, c, i, -, -, hexec⟩
  · exact hs.takeInput.applyReset
  · exact hs.takeInput
  · exact exec_legal hs.takeInput hexec

/-! DEC and what stands around it (R131, R146, R150). -/

/-- Settles O42: the failed DEC writes no field that a later instruction reads. -/
theorem decodeFailureIsNoFault : Obligations.DecodeFailureIsNoFault := by
  intro s arg hs harg hnone
  refine ⟨s.writeFail, exec_dec_of_none hs harg hnone, hs, rfl, rfl, fun i => ?_⟩
  exact exec_endAlike (s := s.writeFail) i hs hs rfl rfl

/-- Settles O43: DEC finds the error that was put on the codeword ENC left, at the distance of its weight. -/
theorem encodedDataSurvivesTwoErrors : Obligations.EncodedDataSurvivesTwoErrors := by
  intro s d e hs he
  have henc : exec (.enc d.toNat) s = .next (s.writeOk (encodeData d) 0#2) := by
    rw [exec_enc, runOperation_of_fits hs d.isLt, operandValue, BitVec.ofNat_toNat, BitVec.setWidth_eq]
  have hword : BitVec.ofNat 17 (encodeData d ^^^ e).toNat = encodeData d ^^^ e := by
    rw [BitVec.ofNat_toNat, BitVec.setWidth_eq]
  have hdec := exec_dec_of_some (s := s.writeOk (encodeData d) 0#2) hs (encodeData d ^^^ e).isLt
    (by rw [hword]; exact decoderCorrectsTwoErrors _ d e he)
  refine ⟨_, _, henc, hdec, rfl, ?_, rfl, hs⟩
  rw [State.writeOk_cnt, BitVec.toNat_ofNat]
  exact Nat.mod_eq_of_lt (by omega)

/-! Runs of loaded programs (R198; log entries 1, 7). -/

theorem run_add {m n : Nat} {s u : State} (h : Host.Core.run core m s = .next u) :
    Host.Core.run core (m + n) s = Host.Core.run core n u := by
  induction m generalizing s with
  | zero =>
    obtain rfl := Host.Outcome.next.inj h
    rw [Nat.zero_add]
  | succ m ih =>
    obtain ⟨v, hstep, hrest⟩ := run_succ_cases h
    rw [Nat.succ_add, run_succ_of_next hstep, ih hrest]

/-- The first step of a loaded program runs its first command, and the rest of the program is loaded after it. -/
theorem step_of_loaded {i : Instr} {rest : List Instr} {s : State} (hload : s.Loaded (i :: rest))
    (hwf : i.WellFormed s.params.argw) :
    ∃ u, step s = .next u ∧ exec i { s with inputs := rest.map HostInput.ofInstr } = .next u ∧ u.Loaded rest ∧
      u.params = s.params := by
  obtain ⟨u, hexec⟩ := exec_next i { s with inputs := rest.map HostInput.ofInstr }
  obtain ⟨hparams, hinputs⟩ := exec_frame hexec
  exact ⟨u, (step_of_presented hload hwf).trans hexec, hexec, hinputs, hparams⟩

/-- A run over the first part of a loaded program leaves the second part loaded, on the same build. -/
theorem run_of_loaded {first rest : List Instr} {s : State} (hload : s.Loaded (first ++ rest))
    (hwf : ∀ i ∈ first, i.WellFormed s.params.argw) :
    ∃ u, Host.Core.run core first.length s = .next u ∧ u.Loaded rest ∧ u.params = s.params := by
  induction first generalizing s with
  | nil => exact ⟨s, rfl, hload, rfl⟩
  | cons i first ih =>
    obtain ⟨hi, hfirst⟩ := List.forall_mem_cons.1 hwf
    obtain ⟨v, hstep, -, hloadv, hparams⟩ := step_of_loaded hload hi
    obtain ⟨u, hrun, hloadu, hparamsu⟩ := ih hloadv (hparams.symm ▸ hfirst)
    exact ⟨u, (run_succ_of_next hstep _).trans hrun, hloadu, hparamsu.trans hparams⟩

/-- A run over commands that keep their contracts leaves `FLT` and `FCAUSE` as they were. -/
theorem run_keeps_fault_registers {first rest : List Instr} {s u : State} (hload : s.Loaded (first ++ rest))
    (hwf : ∀ i ∈ first, i.WellFormed s.params.argw) (hkeeps : ∀ i ∈ first, breaksContract i = false)
    (hrun : Host.Core.run core first.length s = .next u) : u.flt = s.flt ∧ u.fcause = s.fcause := by
  induction first generalizing s with
  | nil =>
    obtain rfl := Host.Outcome.next.inj hrun
    exact ⟨rfl, rfl⟩
  | cons i first ih =>
    obtain ⟨hi, hfirst⟩ := List.forall_mem_cons.1 hwf
    obtain ⟨hki, hkfirst⟩ := List.forall_mem_cons.1 hkeeps
    obtain ⟨v, hstep, hexec, hloadv, hparams⟩ := step_of_loaded hload hi
    obtain ⟨hflt, hcause⟩ := exec_keeps_fault_registers hexec hki
    rw [List.length_cons, run_succ_of_next hstep] at hrun
    obtain ⟨hfltu, hcauseu⟩ := ih hloadv (hparams.symm ▸ hfirst) hkfirst hrun
    exact ⟨hfltu.trans hflt, hcauseu.trans hcause⟩

/-- A loaded program presents no reset. -/
theorem State.Loaded.noReset {program : List Instr} {s : State} (h : s.Loaded program) (k : Nat) :
    ∀ x ∈ s.inputs.take k, x.rst = false := by
  intro x hx
  have hmem := List.mem_of_mem_take hx
  rw [h] at hmem
  obtain ⟨i, -, rfl⟩ := List.mem_map.1 hmem
  rfl

/-- A run whose first violation is `i` ends in the fault state with the cause of `i`: the later commands are refused. -/
theorem run_of_first_violation {before after : List Instr} {i : Instr} {s t : State}
    (hload : s.Loaded (before ++ i :: after)) (hwf : ∀ j ∈ before ++ i :: after, j.WellFormed s.params.argw)
    (hs : s.flt = 0#1) (hbefore : ∀ j ∈ before, breaksContract j = false) (hi : breaksContract i = true)
    (hrun : Host.Core.run core (before ++ i :: after).length s = .next t) :
    t.flt = 1#1 ∧ t.fcause = faultCause i := by
  obtain ⟨hwfbefore, hwfi⟩ := List.forall_mem_append.1 hwf
  obtain ⟨u, hrunu, hloadu, hparamsu⟩ := run_of_loaded hload hwfbefore
  obtain ⟨hfltu, -⟩ := run_keeps_fault_registers hload hwfbefore hbefore hrunu
  obtain ⟨v, hstep, hexec, hloadv, -⟩ := step_of_loaded hloadu (hparamsu.symm ▸ hwfi i List.mem_cons_self)
  have hv : v.flt = 1#1 ∧ v.fcause = faultCause i := by
    cases exec_ending hexec with
    | refused hf _ => cases hs.symm.trans (hfltu.symm.trans hf)
    | faulted _ _ hv => subst hv; exact ⟨rfl, rfl⟩
    | completed _ hkeeps _ => cases hi.symm.trans hkeeps
  rw [List.length_append, run_add hrunu, List.length_cons, run_succ_of_next hstep] at hrun
  obtain ⟨-, -, -, hflt, hcause⟩ := run_of_faulted_sameRegisters hv.1 (hloadv.noReset _) hrun
  exact ⟨hflt.trans hv.1, hcause.trans hv.2⟩

/-- Settles O44: the run ends; with no violation `FLT` stays 0, and otherwise the program splits at the first one. -/
theorem runGoesWrongExactlyOnAViolation : Obligations.RunGoesWrongExactlyOnAViolation := by
  intro program s hload hwf hs
  have hload' : s.Loaded (program ++ []) := by rwa [List.append_nil]
  obtain ⟨t, hrun, hloadt, -⟩ := run_of_loaded hload' hwf
  refine ⟨t, hrun, hloadt, ?_⟩
  rcases hfind : program.find? breaksContract with _ | i
  · have hkeeps : ∀ i ∈ program, breaksContract i = false := by simpa using hfind
    obtain ⟨hflt, -⟩ := run_keeps_fault_registers hload' hwf hkeeps hrun
    refine ⟨⟨fun hwrong => ?_, fun ⟨i, hmem, hi⟩ => ?_⟩, fun i hi => by cases hi⟩
    · cases hs.symm.trans (hflt.symm.trans hwrong)
    · cases (hkeeps i hmem).symm.trans hi
  · obtain ⟨hi, before, after, rfl, hbefore⟩ := List.find?_eq_some_iff_append.1 hfind
    obtain ⟨hflt, hcause⟩ := run_of_first_violation hload hwf hs (by simpa using hbefore) hi hrun
    refine ⟨⟨fun _ => ⟨i, by simp, hi⟩, fun _ => hflt⟩, fun j hj => ?_⟩
    obtain rfl := Option.some.inj hj
    exact hcause

/-- Where two ends of a command without a fault agree in their registers, so do the records of the outcome: they are
told by the contract and by `ST`. -/
theorem outcome_eq_of_sameRegisters {i : Instr} {s s' t t' : State} (hs : s.flt = 0#1) (hs' : s'.flt = 0#1)
    (h : exec i s = .next t) (h' : exec i s' = .next t') (hsame : t.SameRegisters t') : t.outcome = t'.outcome := by
  obtain ⟨-, -, hst, -, -⟩ := hsame
  obtain ⟨-, hfault, hdone⟩ := outcomeRecordsHowTheCommandEnded i s t h
  obtain ⟨-, hfault', hdone'⟩ := outcomeRecordsHowTheCommandEnded i s' t' h'
  rcases hi : breaksContract i with _ | _
  · rcases hdone hs hi with ⟨hok, ho⟩ | ⟨hfail, ho, -⟩ <;>
      rcases hdone' hs' hi with ⟨hok', ho'⟩ | ⟨hfail', ho', -⟩
    · rw [ho, ho']
    · cases hok.symm.trans (hst.trans hfail')
    · cases hfail.symm.trans (hst.trans hok')
    · rw [ho, ho']
  · rw [hfault hs hi, hfault' hs' hi]

/-- Settles O45: the commands before the last leave the fault registers and the build alone, and nothing else is
read. -/
theorem runEndsWithTheLastCommandsResult : Obligations.RunEndsWithTheLastCommandsResult := by
  intro program last s hload hwf hs hkeeps
  obtain ⟨hwfprogram, hwflast⟩ := List.forall_mem_append.1 hwf
  obtain ⟨v, hrun, hloadv, hparams⟩ := run_of_loaded hload hwfprogram
  obtain ⟨hflt, hcause⟩ := run_keeps_fault_registers hload hwfprogram hkeeps hrun
  obtain ⟨t, hstep, hexec, -, -⟩ := step_of_loaded hloadv (hparams.symm ▸ hwflast last List.mem_cons_self)
  obtain ⟨t', u, hexec', hlast, hsame⟩ := exec_endAlike (s := { v with inputs := [] }) (s' := s) last
    (hflt.trans hs) hs hcause (by rw [hparams])
  obtain rfl := Host.Outcome.next.inj (hexec.symm.trans hexec')
  have hout := outcome_eq_of_sameRegisters (s := { v with inputs := [] }) (hflt.trans hs) hs hexec hlast hsame
  refine ⟨t, u, ?_, hlast, hsame, hout⟩
  rw [run_add hrun, run_succ_of_next hstep]
  rfl

/-! Several CORE side by side (R184; log entry 16). -/

theorem stepInstance_of_next {k : Nat} {xs : List State} {s t : State} (hk : xs[k]? = some s)
    (h : step s = .next t) : stepInstance k xs = .next (xs.set k t) := by
  simp only [stepInstance, hk, h]

theorem stepInstance_of_none {k : Nat} {xs : List State} (hk : xs[k]? = none) : stepInstance k xs = .next xs := by
  simp only [stepInstance, hk]

/-- Everything a step of number `k` can do: nothing where `k` names no CORE, or one step of the one it names. -/
theorem stepInstance_cases {k : Nat} {xs ys : List State} (h : stepInstance k xs = .next ys) :
    (xs[k]? = none ∧ ys = xs) ∨ ∃ s t, xs[k]? = some s ∧ step s = .next t ∧ ys = xs.set k t := by
  rcases hk : xs[k]? with _ | s
  · rw [stepInstance_of_none hk] at h
    exact .inl ⟨rfl, (Host.Outcome.next.inj h).symm⟩
  · cases hstep : step s with
    | next t =>
      rw [stepInstance_of_next hk hstep] at h
      exact .inr ⟨s, t, rfl, hstep, (Host.Outcome.next.inj h).symm⟩
    | fault r => cases r
    | refused r =>
      simp only [stepInstance, hk, hstep] at h
      cases h

/-- A step of one number leaves the CORE of every other number as it was. -/
theorem getElem?_of_stepInstance {j k : Nat} {xs ys : List State} (hjk : j ≠ k) (h : stepInstance k xs = .next ys) :
    ys[j]? = xs[j]? := by
  obtain ⟨-, rfl⟩ | ⟨s, t, -, -, rfl⟩ := stepInstance_cases h
  · rfl
  · exact List.getElem?_set_ne hjk.symm

theorem length_of_stepInstance {k : Nat} {xs ys : List State} (h : stepInstance k xs = .next ys) :
    ys.length = xs.length := by
  obtain ⟨-, rfl⟩ | ⟨s, t, -, -, rfl⟩ := stepInstance_cases h
  · rfl
  · exact List.length_set

/-- Steps of two numbers may be taken in either order: each reads and writes its own place of the list. -/
theorem stepInstance_comm {j k : Nat} {xs ys zs : List State} (hjk : j ≠ k) (hj : stepInstance j xs = .next ys)
    (hk : stepInstance k ys = .next zs) :
    ∃ ys', stepInstance k xs = .next ys' ∧ stepInstance j ys' = .next zs := by
  have hother : ys[k]? = xs[k]? := getElem?_of_stepInstance hjk.symm hj
  obtain ⟨hnone, rfl⟩ | ⟨s, t, hs, hstep, rfl⟩ := stepInstance_cases hk
  · exact ⟨xs, stepInstance_of_none (hother ▸ hnone), hj⟩
  · have hkx := stepInstance_of_next (hother.symm.trans hs) hstep
    have hother' : (xs.set k t)[j]? = xs[j]? := getElem?_of_stepInstance hjk hkx
    refine ⟨_, hkx, ?_⟩
    obtain ⟨hnone, rfl⟩ | ⟨s', t', hs', hstep', rfl⟩ := stepInstance_cases hj
    · exact stepInstance_of_none (hother'.trans hnone)
    · rw [stepInstance_of_next (hother'.trans hs') hstep', List.set_comm _ _ hjk]

/-- Settles O46: a step touches one place of the list, so the others stay and steps at two places commute. -/
theorem instancesDoNotAffectEachOther : Obligations.InstancesDoNotAffectEachOther := by
  refine ⟨fun k xs ys h => ⟨length_of_stepInstance h, fun j hj => getElem?_of_stepInstance hj h, fun s hs => ?_⟩,
    fun _ _ _ _ _ hjk hj hk => stepInstance_comm hjk hj hk⟩
  obtain ⟨hnone, -⟩ | ⟨s', t, hs', hstep, rfl⟩ := stepInstance_cases h
  · cases hs.symm.trans hnone
  · obtain rfl := Option.some.inj (hs.symm.trans hs')
    obtain ⟨hlt, -⟩ := List.getElem?_eq_some_iff.1 hs
    exact ⟨t, hstep, List.getElem?_set_self hlt⟩

end Sys2Proof.Machine
